-- ==== Sys2Proof/Word.lean ====
section
/-! DEFINITION. The word types of the controller: bytes of frames, 16-bit words of nodes, 32-bit counters,
48-bit stamps of the segment clock (R128, R169, R174). -/

namespace Sys2Proof

/-- One byte of a trunk or drop frame (R128). -/
abbrev Byte := BitVec 8

/-- One word of a node, or a word address within a space (00_scope.md section 4 "word"). -/
abbrev Word := BitVec 16

/-- A 32-bit counter, generation or latency (R128, R174). -/
abbrev Word32 := BitVec 32

/-- A 48-bit count of µs: a value of the segment clock, or a host time (R169, R170). -/
abbrev Stamp := BitVec 48

end Sys2Proof
end

