-- ==== Sys2Proof/Syntax.lean ====
section
/-! DEFINITION. The commands the controller takes: one constructor of `Instr` for each row of
spec/opcode_table.json, with the operands the environment gives it. -/

namespace Sys2Proof

/-- When a frame on trunk port A is taken. `elapsed`: µs of the segment clock since the command before it.
`airtime`: µs from its opening delimiter to this event, so that the arrival instant of R144 is the clock of the
event less `airtime`. -/
structure Arrival where
  elapsed : Nat
  airtime : Nat
  deriving DecidableEq, Repr

/-- A frame as a port receives it: whether every symbol between its delimiters was valid, and its bytes, check
included (R130, R144). -/
structure RawFrame where
  symbolsValid : Bool
  bytes : List Byte
  deriving DecidableEq, Repr

/-- The fields of a READ or WRITE frame between its kind byte and its check (R130, R131), any of which may be out of
range (R92). `tail` is every byte after the address: MaxAge of a READ, the payload of a WRITE. -/
structure RequestFrame where
  flags : BitVec 4
  tag : Byte
  node : Byte
  spaceCount : Byte
  address : Word
  tail : List Byte
  deriving DecidableEq, Repr

/-- The fields of an ABORT frame (R131). `tail` is every byte after the target tag, empty in a well-formed frame. -/
structure AbortFrame where
  flags : BitVec 4
  tag : Byte
  node : Byte
  target : Byte
  tail : List Byte
  deriving DecidableEq, Repr

/-- The fields of a MANAGE frame but for its code (R131, R137). `args` is every byte after the argument length. -/
structure ManageFrame where
  flags : BitVec 4
  tag : Byte
  node : Byte
  argLength : Byte
  args : List Byte
  deriving DecidableEq, Repr

/-- Which segment number a frame taken by Intake carried: the controller's own, or 15 (R88). -/
inductive Scope where
  | direct
  | broadcast
  deriving DecidableEq, Repr

/-- A character taken by the drop receiver at the end of its stop bit, as the levels of its ten bit times in the order of
the line: bit 0 the start bit, bits 1 to 8 the data least significant bit first, bit 9 the stop bit (R24, R25). -/
structure LineChar where
  levels : BitVec 10
  deriving DecidableEq, Repr

/-- The six strap pins at the release of reset (00_scope.md section 6). -/
structure Straps where
  segment : Fin 16
  rate : Fin 4
  deriving DecidableEq, Repr

/-- What begins a hard reset (R177). -/
inductive ResetSource where
  | powerUp
  | resetPin
  deriving DecidableEq, Repr

/-- The commands: spec/opcode_table.json row by row, in its order. A first operand `dt` is the µs of the segment clock
since the command before it. -/
inductive Instr where
  /-- HARD_RESET (R177): release of reset, latching the straps. -/
  | hardReset (straps : Straps)
  /-- TRUNK_A_UP (R143). -/
  | trunkAUp (dt : Nat)
  /-- TRUNK_A_DOWN (R143). -/
  | trunkADown (dt : Nat)
  /-- TRUNK_B_UP (R143). -/
  | trunkBUp (dt : Nat)
  /-- TRUNK_B_DOWN (R146). -/
  | trunkBDown (dt : Nat)
  /-- A_FRAME_RECEIVED (R146): any frame on port A, as bytes. -/
  | aFrameReceived (t : Arrival) (f : RawFrame)
  /-- B_FRAME_RECEIVED (R148): any frame on port B, as bytes. -/
  | bFrameReceived (dt : Nat) (f : RawFrame)
  /-- B_TRANSMIT_END (R146). -/
  | bTransmitEnd (dt : Nat)
  /-- A_TRANSMIT_END (R151). -/
  | aTransmitEnd (dt : Nat)
  /-- READ (R91): a direct READ frame. -/
  | read (t : Arrival) (f : RequestFrame)
  /-- WRITE (R91): a direct WRITE frame. -/
  | write (t : Arrival) (f : RequestFrame)
  /-- BROADCAST_WRITE (R106): a segment-15 WRITE frame to node 31. -/
  | broadcastWrite (t : Arrival) (f : RequestFrame)
  /-- ABORT (R15): a direct ABORT frame. -/
  | abort (t : Arrival) (f : AbortFrame)
  /-- EDIT_OPEN (R115): no argument. -/
  | editOpen (t : Arrival) (f : ManageFrame)
  /-- EDIT_CLOSE (R118): session id. -/
  | editClose (t : Arrival) (f : ManageFrame)
  /-- ENTRY_WRITE (R116): session id, table, index, mode, 12 bytes of entry image. -/
  | entryWrite (t : Arrival) (f : ManageFrame)
  /-- ENTRY_READ (R117): session id, table, bank, index. -/
  | entryRead (t : Arrival) (f : ManageFrame)
  /-- COMMIT (R119): session id. -/
  | commit (t : Arrival) (f : ManageFrame)
  /-- NODE_READ (R63): node. -/
  | nodeRead (t : Arrival) (f : ManageFrame)
  /-- NODE_ENABLE (R61): node. -/
  | nodeEnable (t : Arrival) (f : ManageFrame)
  /-- NODE_DISABLE (R60): node. -/
  | nodeDisable (t : Arrival) (f : ManageFrame)
  /-- NODE_REVIVE (R62): node. -/
  | nodeRevive (t : Arrival) (f : ManageFrame)
  /-- CELL_READ (R82): cell index. -/
  | cellRead (t : Arrival) (f : ManageFrame)
  /-- DROP_ISOLATE (R43): no argument. -/
  | dropIsolate (t : Arrival) (f : ManageFrame)
  /-- DROP_RESUME (R46): no argument. -/
  | dropResume (t : Arrival) (f : ManageFrame)
  /-- NOTICE_ACK (R165): sequence. -/
  | noticeAck (t : Arrival) (f : ManageFrame)
  /-- NOTICE_MASK (R166): mask of 2 bytes. -/
  | noticeMask (t : Arrival) (f : ManageFrame)
  /-- CLOCK_READ (R171): no argument. -/
  | clockRead (t : Arrival) (f : ManageFrame)
  /-- EPOCH_SET (R172): value of 6 bytes, direct or broadcast. -/
  | epochSet (t : Arrival) (scope : Scope) (f : ManageFrame)
  /-- STATUS_READ (R173): no argument. -/
  | statusRead (t : Arrival) (f : ManageFrame)
  /-- COUNTERS_READ (R140): clear, part. -/
  | countersRead (t : Arrival) (f : ManageFrame)
  /-- SEGMENT_RESET (R178): no argument, direct or broadcast. -/
  | segmentReset (t : Arrival) (scope : Scope) (f : ManageFrame)
  /-- UNKNOWN_CODE (R103): a MANAGE frame whose code is none of R137's. -/
  | unknownCode (t : Arrival) (code : Byte) (f : ManageFrame)
  /-- GUARD_SILENCE_REACHED (R28). -/
  | guardSilenceReached (dt : Nat)
  /-- BUSY_LIMIT_IN_GUARD (R40). -/
  | busyLimitInGuard (dt : Nat)
  /-- REQUEST_FRAME_SENT (R30). -/
  | requestFrameSent (dt : Nat)
  /-- STRAY_CHARACTER (R27). -/
  | strayCharacter (dt : Nat) (ch : LineChar)
  /-- RESPONSE_FIRST_CHARACTER (R31). -/
  | responseFirstCharacter (dt : Nat) (ch : LineChar)
  /-- RESPONSE_CHARACTER (R32). -/
  | responseCharacter (dt : Nat) (ch : LineChar)
  /-- RESPONSE_DEADLINE (R31). -/
  | responseDeadline (dt : Nat)
  /-- RESPONSE_TRUNCATED (R32). -/
  | responseTruncated (dt : Nat)
  /-- DISCARD_SILENCE_REACHED (R33). -/
  | discardSilenceReached (dt : Nat)
  /-- DISCARD_BUSY_LIMIT (R33). -/
  | discardBusyLimit (dt : Nat)
  /-- JAM_CLEARED (R41). -/
  | jamCleared (dt : Nat)
  /-- SENDING_TAIL_END (R48). -/
  | sendingTailEnd (dt : Nat)
  /-- BASE_CYCLE_BOUNDARY (R69). -/
  | baseCycleBoundary (dt : Nat)
  /-- FRESHNESS_EXPIRY (R77): the cell whose age passes its limit. -/
  | freshnessExpiry (dt : Nat) (cell : Fin 64)
  /-- PROBE_TIMER_EXPIRY (R56): `node` is the node address less one. -/
  | probeTimerExpiry (dt : Nat) (node : Fin 30)
  /-- SESSION_TIMER_EXPIRY (R114). -/
  | sessionTimerExpiry (dt : Nat)
  /-- NOTICE_RESEND_EXPIRY (R163). -/
  | noticeResendExpiry (dt : Nat)
  /-- HARD_RESET_BEGIN (R177): power-up, or RESET_N driven low. -/
  | hardResetBegin (source : ResetSource)
  deriving DecidableEq, Repr

end Sys2Proof
end

