-- ==== Sys2Proof/Decode.lean ====
section
/-! DEFINITION. The command a word spells by the opcode table's bits. No row of the table has bits: the controller's
commands are frames, link symbols, line characters and instants of its timers. -/

namespace Sys2Proof

/-- No word spells a command: the table gives no row any bits (log entry 16). -/
def decodeTableWord (_nbits _w : Nat) : Option Instr :=
  none

end Sys2Proof
end

