-- ==== Sys2Proof/Machine/Bytes.lean ====
section
/-! DEFINITION. Byte order and the check sequence of frames (R128, R129). -/

namespace Sys2Proof.Machine

/-- A 16-bit field, high byte first (R128). -/
def be16 (w : BitVec 16) : List Byte :=
  [w.extractLsb' 8 8, w.extractLsb' 0 8]

/-- A 32-bit field, high byte first (R128). -/
def be32 (w : BitVec 32) : List Byte :=
  be16 (w.extractLsb' 16 16) ++ be16 (w.extractLsb' 0 16)

/-- A 48-bit field, high byte first (R128). -/
def be48 (w : BitVec 48) : List Byte :=
  be16 (w.extractLsb' 32 16) ++ be32 (w.extractLsb' 0 32)

/-- The number two bytes carry, high byte first (R128). -/
def word16 (hi lo : Byte) : BitVec 16 :=
  BitVec.ofNat 16 (hi.toNat * 256 + lo.toNat)

/-- The number a run of bytes carries, high byte first, as 48 bits (R128). -/
def word48 (bytes : List Byte) : BitVec 48 :=
  BitVec.ofNat 48 (bytes.foldl (fun n b => n * 256 + b.toNat) 0)

/-- The words of a payload, high byte first; a last odd byte is no word (R128). -/
def wordsOf : List Byte → List Word
  | hi :: lo :: rest => word16 hi lo :: wordsOf rest
  | _ => []

/-- The bytes of a payload of words (R128). -/
def bytesOf (words : List Word) : List Byte :=
  words.flatMap be16

/-- The accumulator after `n` shifts of R129. -/
def crcShift : Nat → BitVec 16 → BitVec 16
  | 0, acc => acc
  | n + 1, acc => crcShift n (if acc.msb then (acc <<< 1) ^^^ 0x1021#16 else acc <<< 1)

/-- The accumulator after one covered byte (R129). -/
def crcByte (acc : BitVec 16) (b : Byte) : BitVec 16 :=
  crcShift 8 (acc ^^^ (b.setWidth 16 <<< 8))

/-- The check over the covered bytes (R129). -/
def crc16 (bytes : List Byte) : BitVec 16 :=
  bytes.foldl crcByte 0xFFFF#16

/-- A frame: the covered bytes and their check, high byte first (R129). -/
def withCheck (bytes : List Byte) : List Byte :=
  bytes ++ be16 (crc16 bytes)

/-- The bytes a frame's check covers (R129). -/
def coveredBytes (frame : List Byte) : List Byte :=
  frame.take (frame.length - 2)

/-- The two check bytes of a frame are those computed over the bytes before them (R129). -/
def checkHolds (frame : List Byte) : Bool :=
  frame.drop (frame.length - 2) == be16 (crc16 (coveredBytes frame))

/-- Byte `i` of a frame, 0 beyond its end. -/
def byteAt (frame : List Byte) (i : Nat) : Byte :=
  frame.getD i 0#8

end Sys2Proof.Machine
end

