-- ==== Sys2Proof/Config.lean ====
section
/-! DEFINITION. What the spec fixes for the part: capacities, fixed limits and code points used by the layers above.
The spec leaves no value of the machine to an implementation, so there is no free value here (NOTES.md, Assumptions). -/

namespace Sys2Proof.Config

/-- Slots that only URGENT requests may take (R3). -/
def urgentReserve : Nat := 4

/-- Places of the immediate part of the Upstream Queue (R90). -/
def immediatePlaces : Nat := 16

/-- Frames each relay queue holds (R146, R148). -/
def relayCapacity : Nat := 8

/-- Ordinary notice records the Notice Queue holds (R157). -/
def noticeCapacity : Nat := 24

/-- The longest trunk frame in bytes, check included (R130). -/
def maxTrunkFrame : Nat := 96

/-- The shortest trunk frame in bytes: common header and check (R131). -/
def minTrunkFrame : Nat := 6

/-- The longest drop response in bytes (R32). -/
def maxResponse : Nat := 72

/-- Words that the counts of all used POLL entries may total (R120). -/
def maxPolledWords : Nat := 256

/-- The strap value that selects REPEATER mode (R153). -/
def repeaterStrap : Fin 16 := 15

/-- The bit rate in bit/s that RATE1, RATE0 select (R24). -/
def bitRate (rate : Fin 4) : Nat :=
  match rate with
  | 0 => 19200
  | 1 => 57600
  | 2 => 115200
  | 3 => 460800

end Sys2Proof.Config
end

