-- ==== Sys2Proof/Machine/State.lean ====
section
/-! DEFINITION. The state of the controller as plain data, block by block (INVENTORY.md, State), its value after a hard
reset, and the reasons a step can stop. -/

namespace Sys2Proof.Machine

/-! ### Names shared by the blocks (R142) -/

/-- The host's identifier of a request (R4). -/
abbrev Tag := Fin 64

/-- A node address as a valid request carries it: 1 to 30 a drop node, 31 the drop broadcast (R130). -/
abbrev NodeAddr := Fin 32

/-- A drop node with a health record: node address less one (R50). -/
abbrev NodeIx := Fin 30

/-- One of the 32 request slots (R2). -/
abbrev SlotIx := Fin 32

/-- A POLL entry and the mirror cell that belongs to it (R67). -/
abbrev CellIx := Fin 64

inductive Op where
  | read
  | write
  deriving DecidableEq, Repr

inductive Class where
  | urgent
  | normal
  | bulk
  deriving DecidableEq, Repr

/-- The reply statuses of R134. -/
inductive Status where
  | ok
  | nodeException
  | timeout
  | corrupt
  | aborted
  | abortedLate
  | lineFault
  | isolated
  | badRequest
  | duplicateTag
  | noAccess
  | notMirrored
  | poolFull
  | nodeAbsent
  | nodeDisabled
  | nodeOffline
  | unknownTag
  | unknownCode
  | noSession
  | sessionBusy
  | commitPending
  | badEntry
  | badTable
  | staleAck
  deriving DecidableEq, Repr

/-- Why an attempt ended CORRUPT (R12, R34). -/
inductive CorruptDetail where
  | badCheck
  | wrongNode
  | wrongOp
  | badLength
  | truncated
  | framing
  deriving DecidableEq, Repr

/-- How an attempt or a transaction ended (R34, R36). -/
inductive DropResult where
  /-- OK, with the data words of a READ (none for a WRITE). -/
  | ok (data : List Word)
  /-- EXCEPTION with its code, 1 to 255. -/
  | exception (code : Byte)
  | timeout
  | corrupt (detail : CorruptDetail)
  deriving DecidableEq, Repr

/-! ### Time Base and Status Unit (chapter 10) -/

inductive ResetCause where
  | power
  | pin
  | soft
  deriving DecidableEq, Repr

structure TimeBase where
  /-- Segment clock, µs (R169). -/
  clock : Stamp
  /-- Epoch offset (R170). -/
  epoch : Stamp
  deriving DecidableEq, Repr

/-- The 24 counters in the order of R139 and R174. -/
inductive Counter where
  | aReceived
  | aCorrupt
  | aMisdirected
  | bReceived
  | bCorrupt
  | bMisdirected
  | downRelayed
  | downRelayLost
  | upRelayed
  | upRelayLost
  | requestsAdmitted
  | immediateReplies
  | mirrorServed
  | intakeDiscarded
  | dropTransactions
  | retries
  | timeouts
  | corruptResponses
  | strayCharacters
  | lineFaults
  | pollsDone
  | pollsMissed
  | noticesSent
  | noticesResent
  deriving DecidableEq, Repr

structure StatusUnit where
  /-- The counter set (R173). -/
  counters : Vector Word32 24
  /-- The held snapshot (R140). -/
  snapshot : Vector Word32 24
  /-- The held snapshot's instant (R140). -/
  snapshotAt : Stamp
  resetCause : ResetCause
  /-- IND_LINE shows (R176). -/
  indLine : Bool
  /-- IND_NODE shows (R176). -/
  indNode : Bool
  deriving DecidableEq, Repr

/-! ### Request Pool and Drop Arbiter (chapter 1) -/

inductive Origin where
  | direct
  | broadcast
  deriving DecidableEq, Repr

/-- The states of an occupied slot (R2). -/
inductive SlotState where
  | queued
  | active
  | abortPending
  | replying
  deriving DecidableEq, Repr

/-- The outcome a slot holds from its entry into REPLYING (R1). `detail` is the detail byte of R134. -/
structure SlotOutcome where
  status : Status
  detail : Byte
  attempts : Nat
  stamp : Stamp
  data : List Word
  deriving DecidableEq, Repr

/-- The request record of an occupied slot (R1). The payload of a READ is empty. -/
structure Slot where
  tag : Tag
  node : NodeAddr
  op : Op
  space : Fin 4
  address : Word
  count : Nat
  payload : List Word
  cls : Class
  origin : Origin
  attempts : Nat
  sentOnce : Bool
  state : SlotState
  outcome : Option SlotOutcome
  deriving DecidableEq, Repr

structure Pool where
  /-- The 32 slots; `none` is a free slot (R2). -/
  slots : Vector (Option Slot) 32
  /-- The class queues, head first (R5). -/
  urgent : List SlotIx
  normal : List SlotIx
  bulk : List SlotIx
  /-- The bulk-credit counter, 0 to 16 (R8). -/
  credit : Nat
  deriving DecidableEq, Repr

/-! ### Drop Engine (chapter 2) -/

inductive PortState where
  | idle
  | guard
  | sending
  | awaiting
  | receiving
  | jammed
  | isolated
  deriving DecidableEq, Repr

/-- The key of a POLL entry (R67). -/
structure PollKey where
  node : NodeAddr
  space : Fin 4
  address : Word
  count : Nat
  deriving DecidableEq, Repr

/-- The claimant that was granted (R26). -/
inductive Claimant where
  | host (slot : SlotIx)
  | poll (entry : CellIx)
  | probe (node : NodeIx)
  deriving DecidableEq, Repr

/-- The active transaction record (R26). `ownAttempts` counts the attempts of a poll or a probe; those of a host
request are its slot's attempts field. `window` is the granted window, absent for node 31. -/
structure Txn where
  claimant : Claimant
  node : NodeAddr
  op : Op
  space : Fin 4
  address : Word
  count : Nat
  payload : List Word
  ownAttempts : Nat
  window : Option Nat
  deriving DecidableEq, Repr

/-- Why collection stopped early (R33). -/
inductive DiscardDetail where
  | framing
  | badLength
  deriving DecidableEq, Repr

/-- The drop engine's state (R26), the request frame it is sending with the start of its first character (R24, R29), and
its DROP_DE pin. The level of DROP_TXD is computed from them (`dropTxd`). -/
structure Engine where
  port : PortState
  txn : Option Txn
  /-- The instant at which the last character ended, own characters of the frame under transmission apart (R25). Those
  that have ended are counted in `State.lastActivity`, which alone is read. -/
  lastActivity : Stamp
  guardEntry : Stamp
  /-- Guard gap in force, ct. -/
  guardGap : Nat
  /-- Busy limit in force, ms. -/
  busyLimit : Nat
  deadline : Option Stamp
  endOfRequest : Option Stamp
  firstChar : Option Stamp
  rxBuffer : List Byte
  discard : Option DiscardDetail
  discardStart : Option Stamp
  /-- The tag of a DROP_ISOLATE that waits for the transaction to end (R43). -/
  pendingIsolate : Option Tag
  jamStart : Option Stamp
  /-- The request frame under transmission, empty when none is (R29); after a soft reset, what is left to be sent of it
  ends with its present character (R48). -/
  txFrame : List Byte
  /-- The start of the first character of the frame under transmission, absent when none is (R29). -/
  txStart : Option Stamp
  /-- DROP_DE is asserted (R29). -/
  dropDE : Bool
  deriving DecidableEq, Repr

/-! ### Node Monitor (chapter 3) -/

inductive HealthState where
  | absent
  | unknown
  | online
  | suspect
  | offline
  | disabled
  deriving DecidableEq, Repr

inductive ProbeClaim where
  | none
  | listed
  | active
  deriving DecidableEq, Repr

/-- The health record of one node (R50). -/
structure Health where
  state : HealthState
  failures : Nat
  successCount : Word32
  failureCount : Word32
  lastLatency : Option Word32
  maxLatency : Option Word32
  offlineSince : Option Stamp
  probeDue : Option Stamp
  claim : ProbeClaim
  deriving DecidableEq, Repr

structure Monitor where
  health : Vector Health 30
  /-- The probe list, head first (R57). -/
  probeList : List NodeIx
  deriving DecidableEq, Repr

/-! ### Poll Calendar and Mirror (chapter 4) -/

inductive CellState where
  | empty
  | fresh
  | stale
  | failed
  deriving DecidableEq, Repr

/-- A mirror cell (R75). `lastFailure` is a status and its detail byte. -/
structure Cell where
  state : CellState
  values : Option (List Word)
  updateStamp : Option Stamp
  limit : Option Stamp
  updateCount : BitVec 16
  missCount : Nat
  lastFailure : Option (Status × Byte)
  deriving DecidableEq, Repr

structure Calendar where
  /-- Base-cycle counter (R68). -/
  counter : Word32
  nextBoundary : Stamp
  /-- Base cycle in force, ms. -/
  baseCycle : Nat
  dueList : List CellIx
  cells : Vector Cell 64
  deriving DecidableEq, Repr

/-! ### Configuration Unit (chapter 6) -/

inductive Verdict where
  | permit
  | deny
  deriving DecidableEq, Repr

/-- An ACCESS entry (R94). Bit s of `spaces` is space s. -/
structure AccessEntry where
  used : Bool
  nodeFirst : NodeAddr
  nodeLast : NodeAddr
  spaces : BitVec 4
  addressFirst : Word
  addressLast : Word
  verdict : Verdict
  allowRead : Bool
  allowWrite : Bool
  maxCount : Nat
  cls : Class
  deriving DecidableEq, Repr

/-- A POLL entry (R67). -/
structure PollEntry where
  used : Bool
  node : NodeAddr
  space : Fin 4
  address : Word
  count : Nat
  period : Nat
  phase : Nat
  staleFactor : Nat
  deriving DecidableEq, Repr

/-- A NODE entry (R49). `window` in ms, `probeUnits` in units of 100 ms. -/
structure NodeEntry where
  present : Bool
  window : Nat
  retryLimit : Nat
  threshold : Nat
  probeUnits : Nat
  deriving DecidableEq, Repr

/-- The SEGMENT entry (R110): ms, ct, ms, count, ms, s. -/
structure SegmentEntry where
  baseCycle : Nat
  guardGap : Nat
  busyLimit : Nat
  bulkShare : Nat
  resendInterval : Nat
  sessionTimeout : Nat
  deriving DecidableEq, Repr

/-- One bank of the four tables (R109). -/
structure Tables where
  access : Vector AccessEntry 48
  poll : Vector PollEntry 64
  node : Vector NodeEntry 30
  segment : SegmentEntry
  deriving DecidableEq, Repr

/-- The session record of R113: the items a state does not have are absent by construction. -/
inductive Session where
  | closed
  | opened (id : Byte) (expiry : Stamp)
  | commitPending (id : Byte) (tag : Tag)
  deriving DecidableEq, Repr

structure ConfigUnit where
  active : Tables
  shadow : Tables
  session : Session
  lastId : Byte
  generation : Word32
  deriving DecidableEq, Repr

/-! ### Trunk Interface (chapter 8) -/

/-- A frame of the DOWN relay with its arrival instant on A (R144, R146). -/
structure DownFrame where
  bytes : List Byte
  arrival : Stamp
  deriving DecidableEq, Repr

/-- A part of a reply after its stamp: bytes fixed when the reply is placed, or a stamp that becomes host time when the
frame is first built (R128, R134). -/
inductive Piece where
  | raw (bytes : List Byte)
  | hostTime (stamp : Stamp)
  deriving DecidableEq, Repr

/-- The source of an immediate reply: the mirror with the age in ms, or the controller (R89). -/
inductive Source where
  | mirror (age : BitVec 16)
  | controller
  deriving DecidableEq, Repr

/-- An immediate reply (R89). Tag and node are the bytes of the frame answered. -/
structure Reply where
  tag : Byte
  node : Byte
  status : Status
  detail : Byte
  source : Source
  stamp : Stamp
  body : List Piece
  deriving DecidableEq, Repr

/-- What an Upstream Queue entry carries (R149). -/
inductive UpItem where
  | slot (slot : SlotIx)
  | immediate (reply : Reply)
  deriving DecidableEq, Repr

/-- An Upstream Queue entry, with its frame once it has been built (R134). -/
structure UpEntry where
  item : UpItem
  frame : Option (List Byte)
  deriving DecidableEq, Repr

/-- The claimants of the A-transmit arbiter (R150). -/
inductive UpClaimant where
  | upRelay
  | upstream
  | notice
  deriving DecidableEq, Repr

/-- The frame under transmission on A. `live` is false once a soft reset has removed what it was sent for (R155). -/
structure ATransmission where
  claimant : UpClaimant
  bytes : List Byte
  live : Bool
  deriving DecidableEq, Repr

structure Trunk where
  aUp : Bool
  bUp : Bool
  downQueue : List DownFrame
  upQueue : List (List Byte)
  upstream : List UpEntry
  /-- Last-granted marker (R150). -/
  marker : UpClaimant
  aTx : Option ATransmission
  bTx : Option (List Byte)
  deriving DecidableEq, Repr

/-! ### Notice Queue (chapter 9) -/

/-- The eleven kinds in priority order, highest first (R135, 9.1). -/
inductive NoticeKind where
  | resetDone
  | noticesLost
  | lineFault
  | lineRestored
  | nodeOffline
  | nodeRecovered
  | cycleOverrun
  | accessRefused
  | relayLoss
  | sessionExpired
  | configApplied
  deriving DecidableEq, Repr

/-- What a record has once it is IN_FLIGHT (R156, R162): its sequence, its frame as first built, and whether a
transmission of it has ended. -/
structure Flight where
  sequence : Byte
  frame : List Byte
  sentBefore : Bool
  deriving DecidableEq, Repr

/-- A notice record (R156): UNSENT while `flight` is absent, IN_FLIGHT while it is present. -/
structure NoticeRecord where
  kind : NoticeKind
  node : Option NodeAddr
  detail : Word
  first : Stamp
  last : Stamp
  repeats : Nat
  flight : Option Flight
  deriving DecidableEq, Repr

/-- Losses that arose while the loss record was IN_FLIGHT (R157, R160); absent while their count is 0. -/
structure HeldLoss where
  count : Nat
  kind : NoticeKind
  first : Stamp
  last : Stamp
  deriving DecidableEq, Repr

structure NoticeQueue where
  /-- Ordinary records in order of creation, the oldest first (R157). -/
  ordinary : List NoticeRecord
  loss : Option NoticeRecord
  heldLoss : Option HeldLoss
  /-- Bit k masks the kind with code k (R137, R166). -/
  mask : BitVec 16
  nextSequence : Byte
  resend : Option Stamp
  /-- The IN_FLIGHT record is to be offered again: its resend timer has expired (R163), or A has come UP (R164), and it
  has not been granted since. -/
  resendDue : Bool
  deriving DecidableEq, Repr

/-! ### The machine -/

/-- The controller: its latched straps, whether it is held in reset, its ten blocks, and the commands that wait. -/
structure State where
  segment : Fin 16
  rate : Fin 4
  held : Option ResetCause
  time : TimeBase
  status : StatusUnit
  pool : Pool
  engine : Engine
  monitor : Monitor
  calendar : Calendar
  config : ConfigUnit
  trunk : Trunk
  notices : NoticeQueue
  pending : List Instr
  deriving DecidableEq, Repr

/-- No command stops the controller: every failure the spec describes is a next state. -/
inductive Fault where
  deriving DecidableEq, Repr

inductive Refusal where
  /-- Raised by an arm of `exec` whose row has no meaning yet; no arm does. Safe: it claims nothing of the hardware. -/
  | notModelled (mnemonic : String)
  deriving DecidableEq, Repr

/-! ### Values after a hard reset -/

/-- The cleared contents of R112. -/
def Tables.cleared : Tables where
  access := Vector.replicate 48
    { used := false, nodeFirst := 1, nodeLast := 1, spaces := 1#4, addressFirst := 0#16, addressLast := 0#16
      verdict := .deny, allowRead := true, allowWrite := false, maxCount := 1, cls := .normal }
  poll := Vector.replicate 64
    { used := false, node := 1, space := 0, address := 0#16, count := 1, period := 1, phase := 0, staleFactor := 1 }
  node := Vector.replicate 30
    { present := false, window := 20, retryLimit := 1, threshold := 3, probeUnits := 10 }
  segment :=
    { baseCycle := 10, guardGap := 3, busyLimit := 100, bulkShare := 4, resendInterval := 500, sessionTimeout := 60 }

/-- A cleared health record in a given state (R50). -/
def Health.cleared (state : HealthState) : Health :=
  { state := state, failures := 0, successCount := 0#32, failureCount := 0#32, lastLatency := none, maxLatency := none
    offlineSince := none, probeDue := none, claim := .none }

/-- An EMPTY cell (R83, R86). -/
def Cell.cleared : Cell :=
  { state := .empty, values := none, updateStamp := none, limit := none, updateCount := 0#16, missCount := 0
    lastFailure := none }

/-- Every block at its hard-reset value for the straps latched, before RESET_DONE is raised (R22, R47, R65, R86, R126,
R155, R167, R177). The guard entry instant is the model's choice: the spec gives it no value before the first GUARD. -/
def State.blank (straps : Straps) (cause : ResetCause) : State where
  segment := straps.segment
  rate := straps.rate
  held := none
  time := { clock := 0#48, epoch := 0#48 }
  status :=
    { counters := Vector.replicate 24 0#32, snapshot := Vector.replicate 24 0#32, snapshotAt := 0#48
      resetCause := cause, indLine := false, indNode := false }
  pool := { slots := Vector.replicate 32 none, urgent := [], normal := [], bulk := [], credit := 0 }
  engine :=
    { port := if straps.segment = Config.repeaterStrap then .isolated else .idle
      txn := none, lastActivity := 0#48, guardEntry := 0#48, guardGap := 3, busyLimit := 100, deadline := none
      endOfRequest := none, firstChar := none, rxBuffer := [], discard := none, discardStart := none
      pendingIsolate := none, jamStart := none, txFrame := [], txStart := none, dropDE := false }
  monitor := { health := Vector.replicate 30 (Health.cleared .absent), probeList := [] }
  calendar :=
    { counter := 0#32, nextBoundary := 10000#48, baseCycle := 10, dueList := []
      cells := Vector.replicate 64 Cell.cleared }
  config :=
    { active := Tables.cleared, shadow := Tables.cleared, session := .closed, lastId := 0#8, generation := 0#32 }
  trunk :=
    { aUp := false, bUp := false, downQueue := [], upQueue := [], upstream := [], marker := .notice, aTx := none
      bTx := none }
  notices :=
    { ordinary := [], loss := none, heldLoss := none, mask := 0#16, nextSequence := 0#8, resend := none
      resendDue := false }
  pending := []

/-- The RESET_DONE record raised in the event of a reset's release (R167): no node, detail 1 POWER or 2 PIN, stamps 0. -/
def NoticeRecord.powerOn : NoticeRecord :=
  { kind := .resetDone, node := none, detail := 1#16, first := 0#48, last := 0#48, repeats := 1, flight := none }

/-- The controller right after a power-up reset. DESIGN CHOICE (log entry 5): the board's straps are segment 0 and
19 200 bit/s, and the cause is POWER. -/
def State.reset : State :=
  let s := State.blank { segment := 0, rate := 0 } .power
  { s with notices := { s.notices with ordinary := [NoticeRecord.powerOn] } }

end Sys2Proof.Machine
end

