-- ==== Sys2Proof/Machine/Codes.lean ====
section
/-! DEFINITION. The codes that names written in capitals have in frames (R128, R134, R135, R137, R142). -/

namespace Sys2Proof.Machine

/-- R134. -/
def Status.code (status : Status) : Byte :=
  match status with
  | .ok => 0x00#8
  | .nodeException => 0x01#8
  | .timeout => 0x02#8
  | .corrupt => 0x03#8
  | .aborted => 0x04#8
  | .abortedLate => 0x05#8
  | .lineFault => 0x06#8
  | .isolated => 0x07#8
  | .badRequest => 0x10#8
  | .duplicateTag => 0x11#8
  | .noAccess => 0x12#8
  | .notMirrored => 0x13#8
  | .poolFull => 0x14#8
  | .nodeAbsent => 0x15#8
  | .nodeDisabled => 0x16#8
  | .nodeOffline => 0x17#8
  | .unknownTag => 0x18#8
  | .unknownCode => 0x19#8
  | .noSession => 0x20#8
  | .sessionBusy => 0x21#8
  | .commitPending => 0x22#8
  | .badEntry => 0x23#8
  | .badTable => 0x24#8
  | .staleAck => 0x25#8

/-- CORRUPT details (R134). -/
def CorruptDetail.code (d : CorruptDetail) : Byte :=
  match d with
  | .badCheck => 1#8
  | .wrongNode => 2#8
  | .wrongOp => 3#8
  | .badLength => 4#8
  | .truncated => 5#8
  | .framing => 6#8

/-- ABORTED and ABORTED_LATE details: the drop result, or NONE (R13, R134). -/
def abortDetail (result : Option DropResult) : Byte :=
  match result with
  | none => 0#8
  | some (.ok _) => 1#8
  | some (.exception _) => 2#8
  | some .timeout => 3#8
  | some (.corrupt _) => 4#8

/-- BAD_REQUEST details (R134). -/
inductive BadRequest where
  | length
  | tag
  | flags
  | node
  | broadcastRead
  | count
  | range
  | maxAge
  | mirrorFlag
  | target
  | argument
  deriving DecidableEq, Repr

/-- R134. -/
def BadRequest.code (d : BadRequest) : Byte :=
  match d with
  | .length => 1#8
  | .tag => 2#8
  | .flags => 3#8
  | .node => 4#8
  | .broadcastRead => 5#8
  | .count => 6#8
  | .range => 7#8
  | .maxAge => 8#8
  | .mirrorFlag => 9#8
  | .target => 10#8
  | .argument => 11#8

/-- Why the access check refuses (R96). -/
inductive AccessRefusal where
  | noMatch
  | denied
  | op
  | count
  deriving DecidableEq, Repr

/-- NO_ACCESS details (R134). -/
def AccessRefusal.code (d : AccessRefusal) : Byte :=
  match d with
  | .noMatch => 1#8
  | .denied => 2#8
  | .op => 3#8
  | .count => 4#8

/-- Why the commit checks fail (R120). -/
inductive TableFault where
  | phase
  | node
  | key
  | words
  deriving DecidableEq, Repr

/-- BAD_TABLE details (R134). -/
def TableFault.code (d : TableFault) : Byte :=
  match d with
  | .phase => 1#8
  | .node => 2#8
  | .key => 3#8
  | .words => 4#8

/-- The code of a notice kind, which is also its priority number, 1 the highest (R136, 9.1). -/
def NoticeKind.code (kind : NoticeKind) : Nat :=
  match kind with
  | .resetDone => 1
  | .noticesLost => 2
  | .lineFault => 3
  | .lineRestored => 4
  | .nodeOffline => 5
  | .nodeRecovered => 6
  | .cycleOverrun => 7
  | .accessRefused => 8
  | .relayLoss => 9
  | .sessionExpired => 10
  | .configApplied => 11

/-- R142. -/
def ResetCause.code (cause : ResetCause) : Byte :=
  match cause with
  | .power => 1#8
  | .pin => 2#8
  | .soft => 3#8

/-- R142. -/
def PortState.code (port : PortState) : Byte :=
  match port with
  | .idle => 0#8
  | .guard => 1#8
  | .sending => 2#8
  | .awaiting => 3#8
  | .receiving => 4#8
  | .jammed => 5#8
  | .isolated => 6#8

/-- R142. -/
def HealthState.code (state : HealthState) : Byte :=
  match state with
  | .absent => 0#8
  | .unknown => 1#8
  | .online => 2#8
  | .suspect => 3#8
  | .offline => 4#8
  | .disabled => 5#8

/-- R139: probe claim of a NODE_READ result. -/
def ProbeClaim.code (claim : ProbeClaim) : Byte :=
  match claim with
  | .none => 0#8
  | .listed => 1#8
  | .active => 2#8

/-- R142. -/
def CellState.code (state : CellState) : Byte :=
  match state with
  | .empty => 0#8
  | .fresh => 1#8
  | .stale => 2#8
  | .failed => 3#8

/-- R142. -/
def Class.code (cls : Class) : Byte :=
  match cls with
  | .urgent => 1#8
  | .normal => 2#8
  | .bulk => 3#8

/-- R139. -/
def Verdict.code (verdict : Verdict) : Byte :=
  match verdict with
  | .permit => 1#8
  | .deny => 2#8

/-- The op byte of a drop request (R141). -/
def Op.code (op : Op) : Byte :=
  match op with
  | .read => 1#8
  | .write => 2#8

/-- The op echo a node answers with: the op with the high bit set (R34, R141). -/
def Op.echo (op : Op) : Byte :=
  match op with
  | .read => 0x81#8
  | .write => 0x82#8

/-- R142. -/
def Session.code (session : Session) : Byte :=
  match session with
  | .closed => 0#8
  | .opened _ _ => 1#8
  | .commitPending _ _ => 2#8

/-- The session id a reply carries: 0 when CLOSED (R115). -/
def Session.idByte (session : Session) : Byte :=
  match session with
  | .closed => 0#8
  | .opened id _ => id
  | .commitPending id _ => id

/-- The management codes the controller knows (R137). -/
inductive ManageCode where
  | editOpen
  | editClose
  | entryWrite
  | entryRead
  | commit
  | nodeRead
  | nodeEnable
  | nodeDisable
  | nodeRevive
  | cellRead
  | dropIsolate
  | dropResume
  | noticeAck
  | noticeMask
  | clockRead
  | epochSet
  | statusRead
  | countersRead
  | segmentReset
  deriving DecidableEq, Repr

/-- R137. -/
def ManageCode.byte (code : ManageCode) : Byte :=
  match code with
  | .editOpen => 0x10#8
  | .editClose => 0x11#8
  | .entryWrite => 0x12#8
  | .entryRead => 0x13#8
  | .commit => 0x14#8
  | .nodeRead => 0x20#8
  | .nodeEnable => 0x21#8
  | .nodeDisable => 0x22#8
  | .nodeRevive => 0x23#8
  | .cellRead => 0x30#8
  | .dropIsolate => 0x40#8
  | .dropResume => 0x41#8
  | .noticeAck => 0x50#8
  | .noticeMask => 0x51#8
  | .clockRead => 0x60#8
  | .epochSet => 0x61#8
  | .statusRead => 0x70#8
  | .countersRead => 0x71#8
  | .segmentReset => 0x72#8

/-- The length of each code's argument fields (R137). -/
def ManageCode.argLength (code : ManageCode) : Nat :=
  match code with
  | .editOpen => 0
  | .editClose => 1
  | .entryWrite => 16
  | .entryRead => 4
  | .commit => 1
  | .nodeRead => 1
  | .nodeEnable => 1
  | .nodeDisable => 1
  | .nodeRevive => 1
  | .cellRead => 1
  | .dropIsolate => 0
  | .dropResume => 0
  | .noticeAck => 1
  | .noticeMask => 2
  | .clockRead => 0
  | .epochSet => 6
  | .statusRead => 0
  | .countersRead => 2
  | .segmentReset => 0

/-- Every code of R137. -/
def ManageCode.all : List ManageCode :=
  [.editOpen, .editClose, .entryWrite, .entryRead, .commit, .nodeRead, .nodeEnable, .nodeDisable, .nodeRevive, .cellRead,
    .dropIsolate, .dropResume, .noticeAck, .noticeMask, .clockRead, .epochSet, .statusRead, .countersRead, .segmentReset]

/-- The code a byte names, if the controller knows it (R103 step 3). -/
def ManageCode.ofByte? (b : Byte) : Option ManageCode :=
  ManageCode.all.find? (fun code => code.byte == b)

/-- Kind bytes of trunk frames (R130). -/
def kindRead : Byte := 0x01#8
def kindWrite : Byte := 0x02#8
def kindAbort : Byte := 0x03#8
def kindManage : Byte := 0x04#8
def kindReply : Byte := 0x81#8
def kindNotice : Byte := 0x82#8

/-- A node address with a health record, as its index (R50). -/
def nodeIx? (a : NodeAddr) : Option NodeIx :=
  if h : 1 ≤ a.val ∧ a.val ≤ 30 then some ⟨a.val - 1, by omega⟩ else none

/-- The address of a node with a health record (R50). -/
def nodeAddr (n : NodeIx) : NodeAddr :=
  ⟨n.val + 1, by omega⟩

end Sys2Proof.Machine
end

