-- ==== Sys2Proof/Machine/Flags.lean ====
section
/-! DEFINITION. The Status Unit's counters and the two indicator outputs (R174, R176). -/

namespace Sys2Proof.Machine

/-- The counter's place in the counter set, its number in R139 and R174 less one. -/
def Counter.index (c : Counter) : Fin 24 :=
  match c with
  | .aReceived => 0
  | .aCorrupt => 1
  | .aMisdirected => 2
  | .bReceived => 3
  | .bCorrupt => 4
  | .bMisdirected => 5
  | .downRelayed => 6
  | .downRelayLost => 7
  | .upRelayed => 8
  | .upRelayLost => 9
  | .requestsAdmitted => 10
  | .immediateReplies => 11
  | .mirrorServed => 12
  | .intakeDiscarded => 13
  | .dropTransactions => 14
  | .retries => 15
  | .timeouts => 16
  | .corruptResponses => 17
  | .strayCharacters => 18
  | .lineFaults => 19
  | .pollsDone => 20
  | .pollsMissed => 21
  | .noticesSent => 22
  | .noticesResent => 23

/-- The value of a counter. -/
def State.counter (s : State) (c : Counter) : Word32 :=
  s.status.counters[c.index]

/-- A counter increases by `n`, wrapping as 32 bits (R174). -/
def addCount (c : Counter) (n : Nat) (s : State) : State :=
  { s with
    status :=
      { s.status with
        counters := s.status.counters.set c.index.val (s.status.counters[c.index] + BitVec.ofNat 32 n) c.index.isLt } }

/-- A counter increases by one (R174). -/
def bump (c : Counter) (s : State) : State :=
  addCount c 1 s

/-- IND_LINE changes (R176). -/
def setLineIndicator (shows : Bool) (s : State) : State :=
  { s with status := { s.status with indLine := shows } }

/-- IND_NODE is re-evaluated: it shows while at least one node is OFFLINE (R55). -/
def evalNodeIndicator (s : State) : State :=
  { s with
    status := { s.status with indNode := s.monitor.health.toList.any (fun h => h.state == .offline) } }

end Sys2Proof.Machine
end

