-- ==== Sys2Proof/Machine/Ops.lean ====
section
/-! DEFINITION. Operations every block uses: the segment clock, host time, raising a notice, the tag map, the places of
the Upstream Queue, and placing an immediate reply (R4, R89, R90, R156 to R161, R169, R170). -/

namespace Sys2Proof.Machine

/-! ### Time -/

/-- The segment clock after `us` µs, a 48-bit count (R169). -/
def advance (us : Nat) (s : State) : State :=
  { s with time := { s.time with clock := s.time.clock + BitVec.ofNat 48 us } }

/-- A command's effect `us` µs after the command before it; a controller held in reset takes nothing but its release
(R177). -/
def running (us : Nat) (k : State → State) (s : State) : State :=
  if s.held.isSome then s else k (advance us s)

/-- µs from one instant to a later one. -/
def microsBetween (earlier later : Stamp) : Nat :=
  (later - earlier).toNat

/-- An interval of whole ms as a stamp difference. -/
def ms (n : Nat) : Stamp :=
  BitVec.ofNat 48 (n * 1000)

/-- Whole ms from one instant to a later one, saturating at 65535 (R41, R52). -/
def wholeMs (earlier later : Stamp) : Word :=
  BitVec.ofNat 16 (min 65535 (microsBetween earlier later / 1000))

/-- `n` character times at the latched rate, in whole µs rounded down (R24). DESIGN CHOICE (log entry 3): the rounding. -/
def ctMicros (rate : Fin 4) (n : Nat) : Nat :=
  n * 10000000 / Config.bitRate rate

/-- Host time of an instant: the instant plus the epoch offset, modulo 2^48 (R170). -/
def hostTime (s : State) (instant : Stamp) : Stamp :=
  instant + s.time.epoch

/-- An instant has been reached by the segment clock. -/
def reached (s : State) (instant : Stamp) : Bool :=
  decide (instant ≤ s.time.clock)

/-- The controller runs in REPEATER mode (R153). -/
def State.repeater (s : State) : Bool :=
  s.segment == Config.repeaterStrap

/-! ### Notices (R156 to R161) -/

/-- The kind of highest priority among the UNSENT records of a list (R157). -/
def topUnsentKind (records : List NoticeRecord) : Option NoticeKind :=
  records.foldl
    (fun best r =>
      if r.flight.isSome then best
      else
        match best with
        | none => some r.kind
        | some k => if r.kind.code < k.code then some r.kind else best)
    none

/-- The kind of lowest priority among the UNSENT records of a list (R159). -/
def bottomUnsentKind (records : List NoticeRecord) : Option NoticeKind :=
  records.foldl
    (fun worst r =>
      if r.flight.isSome then worst
      else
        match worst with
        | none => some r.kind
        | some k => if k.code < r.kind.code then some r.kind else worst)
    none

/-- The first element that satisfies `p`, changed by `f`. -/
def modifyFirst {α : Type} (p : α → Bool) (f : α → α) : List α → List α
  | [] => []
  | x :: xs => if p x then f x :: xs else x :: modifyFirst p f xs

/-- A list without its last element that satisfies `p`. -/
def dropLastThat {α : Type} (p : α → Bool) (l : List α) : List α :=
  (l.reverse.eraseP p).reverse

/-- An UNSENT record of a kind. -/
def NoticeRecord.unsentOf (kind : NoticeKind) (r : NoticeRecord) : Bool :=
  r.flight.isNone && r.kind == kind

/-- An UNSENT record of a kind and node, which a raise of both merges into (R158). -/
def NoticeRecord.mergesWith (kind : NoticeKind) (node : Option NodeAddr) (r : NoticeRecord) : Bool :=
  r.unsentOf kind && r.node == node

/-- A new UNSENT record (R158 case 3). -/
def NoticeRecord.make (kind : NoticeKind) (node : Option NodeAddr) (detail : Word) (now : Stamp) : NoticeRecord :=
  { kind := kind, node := node, detail := detail, first := now, last := now, repeats := 1, flight := none }

/-- A raise merged into an UNSENT record (R158 case 2). -/
def NoticeRecord.merge (detail : Word) (now : Stamp) (r : NoticeRecord) : NoticeRecord :=
  { r with detail := detail, last := now, repeats := min 255 (r.repeats + 1) }

/-- A loss of a kind at an instant is recorded in the loss record or in the held loss (R160). -/
def NoticeQueue.recordLoss (kind : NoticeKind) (now : Stamp) (q : NoticeQueue) : NoticeQueue :=
  let code := BitVec.ofNat 16 kind.code
  match q.loss with
  | none => { q with loss := some (NoticeRecord.make .noticesLost none code now) }
  | some r =>
    if r.flight.isNone then { q with loss := some (r.merge code now) }
    else
      match q.heldLoss with
      | none => { q with heldLoss := some { count := 1, kind := kind, first := now, last := now } }
      | some h => { q with heldLoss := some { h with count := min 255 (h.count + 1), kind := kind, last := now } }

/-- A raise taken by the queue: discarded, merged, made into a record, or decided by R159 (R158). -/
def NoticeQueue.takeRaise (kind : NoticeKind) (node : Option NodeAddr) (detail : Word) (now : Stamp) (q : NoticeQueue) :
    NoticeQueue :=
  if q.mask.getLsbD kind.code then q
  else if q.ordinary.any (NoticeRecord.mergesWith kind node) then
    { q with ordinary := modifyFirst (NoticeRecord.mergesWith kind node) (NoticeRecord.merge detail now) q.ordinary }
  else if q.ordinary.length < Config.noticeCapacity then
    { q with ordinary := q.ordinary ++ [NoticeRecord.make kind node detail now] }
  else
    match bottomUnsentKind q.ordinary with
    | none => q.recordLoss kind now
    | some worst =>
      if kind.code < worst.code then
        NoticeQueue.recordLoss worst now
          { q with
            ordinary :=
              dropLastThat (NoticeRecord.unsentOf worst) q.ordinary ++ [NoticeRecord.make kind node detail now] }
      else q.recordLoss kind now

/-- A block raises a notice in its event (9.1); a controller in REPEATER mode raises none (R153, R167). -/
def raise (kind : NoticeKind) (node : Option NodeAddr) (detail : Word) (s : State) : State :=
  if s.repeater then s else { s with notices := s.notices.takeRaise kind node detail s.time.clock }

/-- The IN_FLIGHT record, of which there is at most one (R157). -/
def NoticeQueue.inFlight (q : NoticeQueue) : Option NoticeRecord :=
  (q.loss.toList ++ q.ordinary).find? (fun r => r.flight.isSome)

/-- Some record is UNSENT, the loss record included. -/
def NoticeQueue.hasUnsent (q : NoticeQueue) : Bool :=
  (q.loss.toList ++ q.ordinary).any (fun r => r.flight.isNone)

/-- Whether the queue has an offer for the A-transmit arbiter (R161). -/
def offered (s : State) : Bool :=
  s.trunk.aUp && (if s.notices.inFlight.isSome then s.notices.resendDue else s.notices.hasUnsent)

/-! ### The tag map (R4) -/

/-- The tag that a pending COMMIT holds (R4, R121). -/
def Session.heldTag (session : Session) : Option Tag :=
  match session with
  | .closed => none
  | .opened _ _ => none
  | .commitPending _ tag => some tag

/-- The slot whose record carries a tag, if an occupied slot does. -/
def slotOfTag (s : State) (tag : Tag) : Option SlotIx :=
  (List.finRange 32).find? (fun i => (s.pool.slots[i]).any (fun slot => slot.tag == tag))

/-- A tag is in use while an occupied slot, the pending COMMIT or the pending DROP_ISOLATE holds it (R4). -/
def tagInUse (s : State) (tag : Tag) : Bool :=
  (slotOfTag s tag).isSome || s.config.session.heldTag == some tag || s.engine.pendingIsolate == some tag

/-! ### The Upstream Queue's places (R89, R90, R149) -/

/-- An entry of the immediate part. -/
def UpEntry.isImmediate (e : UpEntry) : Bool :=
  match e.item with
  | .slot _ => false
  | .immediate _ => true

/-- Reservations of the immediate part: a pending COMMIT and a pending DROP_ISOLATE (R90). -/
def reservations (s : State) : Nat :=
  (if s.config.session.heldTag.isSome then 1 else 0) + (if s.engine.pendingIsolate.isSome then 1 else 0)

/-- Places of the immediate part that are taken (R90). -/
def placesTaken (s : State) : Nat :=
  s.trunk.upstream.countP UpEntry.isImmediate + reservations s

/-- The limit of R90 is reached. -/
def placesFull (s : State) : Bool :=
  decide (Config.immediatePlaces ≤ placesTaken s)

/-- An entry joins the tail of the Upstream Queue, without a frame yet (R149). -/
def enqueueUp (item : UpItem) (s : State) : State :=
  { s with trunk := { s.trunk with upstream := s.trunk.upstream ++ [{ item := item, frame := none }] } }

/-- An immediate reply is placed and counted (R89). -/
def placeReply (r : Reply) (s : State) : State :=
  bump .immediateReplies (enqueueUp (.immediate r) s)

/-- A reply of the controller to a frame with given tag and node bytes, stamped with the segment clock of the event
(R89). -/
def answer (tag node : Byte) (status : Status) (detail : Byte) (body : List Piece) (s : State) : State :=
  placeReply
    { tag := tag, node := node, status := status, detail := detail, source := .controller, stamp := s.time.clock
      body := body } s

/-- The reply to a MANAGE frame (R104). -/
def reply (f : ManageFrame) (status : Status) (detail : Byte) (body : List Piece) (s : State) : State :=
  answer f.tag f.node status detail body s

/-- The deferred reply to a MANAGE frame whose tag was held: its node field is 0 (R104). -/
def deferredReply (tag : Tag) (status : Status) (body : List Piece) (s : State) : State :=
  answer (BitVec.ofNat 8 tag.val) 0#8 status 0#8 body s

/-- BAD_REQUEST, detail ARGUMENT (R104, R138). -/
def badArgument (f : ManageFrame) (s : State) : State :=
  reply f .badRequest BadRequest.argument.code [] s

end Sys2Proof.Machine
end

