-- ==== Sys2Proof/Machine/MirrorOps.lean ====
section
/-! DEFINITION. Shared operations of the Poll Calendar and Mirror: keys, freshness limits, poll outcomes, write
completions, cells of a node taken out of service, serving, and the rebuild at a commit (chapter 4). -/

namespace Sys2Proof.Machine

/-- The key of a POLL entry (R67). -/
def PollEntry.key (e : PollEntry) : PollKey :=
  { node := e.node, space := e.space, address := e.address, count := e.count }

/-- The health state of a node address; 0 and 31 have no record (R50). -/
def healthOf (s : State) (a : NodeAddr) : HealthState :=
  match nodeIx? a with
  | some n => (s.monitor.health[n]).state
  | none => .absent

/-- A node whose requests are admitted and whose polls join the due list (R51). -/
def HealthState.inService (h : HealthState) : Bool :=
  h == .unknown || h == .online || h == .suspect

/-- The used entry of a bank that carries a key (R67, R74). -/
def entryOfKey (b : Tables) (key : PollKey) : Option CellIx :=
  (List.finRange 64).find? (fun i => (b.poll[i]).used && (b.poll[i]).key == key)

/-- The age limit of a cell: stale factor times period times base cycle, as a stamp difference (R77). -/
def ageLimit (e : PollEntry) (baseCycle : Nat) : Stamp :=
  ms (e.staleFactor * e.period * baseCycle)

/-- One cell changed. -/
def modifyCell (i : CellIx) (f : Cell → Cell) (s : State) : State :=
  { s with calendar := { s.calendar with cells := s.calendar.cells.set i.val (f s.calendar.cells[i]) i.isLt } }

/-- A cell after a poll answered OK (R75). -/
def Cell.refresh (data : List Word) (now limit : Stamp) (c : Cell) : Cell :=
  { c with
    state := .fresh, values := some data, updateStamp := some now, limit := some limit
    updateCount := c.updateCount + 1#16 }

/-- A cell after a failed poll (R76). -/
def Cell.fail (failure : Status × Byte) (c : Cell) : Cell :=
  { c with state := .failed, limit := none, lastFailure := some failure }

/-- A cell of a node taken OFFLINE or DISABLED (R73). -/
def Cell.outOfService (c : Cell) : Cell :=
  { c with state := .failed, limit := none }

/-- A FRESH cell becomes STALE: values, stamp and counts are kept (R77, R78). -/
def Cell.stale (c : Cell) : Cell :=
  { c with state := .stale, limit := none }

/-- The last failure that a poll's outcome other than OK leaves (R76). -/
def failureOf (result : DropResult) : Status × Byte :=
  match result with
  | .ok _ => (.ok, 0#8)
  | .exception code => (.nodeException, code)
  | .timeout => (.timeout, 0#8)
  | .corrupt d => (.corrupt, d.code)

/-- A poll's final outcome reaches the mirror (R74). -/
def pollOutcome (key : PollKey) (result : DropResult) (s : State) : State :=
  let s := bump .pollsDone s
  match entryOfKey s.config.active key with
  | none => s
  | some i =>
    if healthOf s key.node = .disabled ∨ healthOf s key.node = .absent then s
    else
      match result with
      | .ok data =>
        modifyCell i
          (Cell.refresh data s.time.clock
            (s.time.clock + ageLimit s.config.active.poll[i] s.calendar.baseCycle)) s
      | r => modifyCell i (Cell.fail (failureOf r)) s

/-- Two word ranges of a space intersect (R78). -/
def rangesMeet (address1 : Word) (count1 : Nat) (address2 : Word) (count2 : Nat) : Bool :=
  decide (address1.toNat ≤ address2.toNat + count2 - 1) && decide (address2.toNat ≤ address1.toNat + count1 - 1)

/-- A POLL entry's cell overlaps a write completion (R78). -/
def overlaps (e : PollEntry) (w : PollKey) : Bool :=
  e.used && (e.node == w.node || w.node.val == 31) && e.space == w.space &&
    rangesMeet e.address e.count w.address w.count

/-- A write completion makes every FRESH cell it overlaps STALE (R78). -/
def writeCompletion (w : PollKey) (s : State) : State :=
  { s with
    calendar :=
      { s.calendar with
        cells :=
          Vector.ofFn fun i =>
            if (s.calendar.cells[i]).state = .fresh ∧ overlaps s.config.active.poll[i] w then
              (s.calendar.cells[i]).stale
            else s.calendar.cells[i] } }

/-- A node leaves service: its cells enter FAILED and its entries leave the due list uncounted (R73). DESIGN CHOICE (log
entry 25): every cell of the node does, an EMPTY one that a commit has placed included, also where the node was OFFLINE
already. -/
def failCellsOf (a : NodeAddr) (s : State) : State :=
  { s with
    calendar :=
      { s.calendar with
        cells :=
          Vector.ofFn fun i =>
            if (s.config.active.poll[i]).used ∧ (s.config.active.poll[i]).node = a then
              (s.calendar.cells[i]).outOfService
            else s.calendar.cells[i]
        dueList := s.calendar.dueList.filter (fun i => (s.config.active.poll[i]).node != a) } }

/-- A cell can serve a READ with MaxAge (R80). -/
def canServe (s : State) (w : PollKey) (maxAge : Nat) (i : CellIx) : Bool :=
  let c := s.calendar.cells[i]
  let e := s.config.active.poll[i]
  c.state == .fresh && e.node == w.node && e.space == w.space &&
    decide (e.address.toNat ≤ w.address.toNat) &&
    decide (w.address.toNat + w.count ≤ e.address.toNat + e.count) &&
    c.updateStamp.any (fun stamp => decide (microsBetween stamp s.time.clock ≤ maxAge * 1000))

/-- The cell that serves a READ: the lowest index that can (R80). -/
def servingCell (s : State) (w : PollKey) (maxAge : Nat) : Option CellIx :=
  (List.finRange 64).find? (canServe s w maxAge)

/-- The new due list (R71). -/
def formDueList (s : State) : List CellIx :=
  if s.engine.port = .jammed ∨ s.engine.port = .isolated then []
  else
    (List.finRange 64).filter fun i =>
      let e := s.config.active.poll[i]
      e.used && decide (s.calendar.counter.toNat % e.period = e.phase) && (healthOf s e.node).inService

/-- The cell that a commit places at an index, before freshness is computed afresh (R83). -/
def carriedCell (old : Tables) (cells : Vector Cell 64) (e : PollEntry) : Cell :=
  if e.used then
    match entryOfKey old e.key with
    | some k => cells[k]
    | none => Cell.cleared
  else Cell.cleared

/-- A carried cell with its freshness limit computed afresh (R84). -/
def Cell.recomputed (e : PollEntry) (baseCycle : Nat) (now : Stamp) (c : Cell) : Cell :=
  match c.state, c.updateStamp with
  | .fresh, some stamp =>
    if ageLimit e baseCycle < now - stamp then c.stale
    else { c with limit := some (stamp + ageLimit e baseCycle) }
  | _, _ => c

/-- The mirror rebuilt by key when a commit is applied: `old` is the bank that was ACTIVE before it (R83, R84). -/
def rebuildMirror (old : Tables) (s : State) : State :=
  { s with
    calendar :=
      { s.calendar with
        cells :=
          Vector.ofFn fun j =>
            (carriedCell old s.calendar.cells s.config.active.poll[j]).recomputed s.config.active.poll[j]
              s.config.active.segment.baseCycle s.time.clock } }

/-- Leftovers of the due list that ends: miss counts, "polls missed", CYCLE_OVERRUN; the list becomes empty (R70). -/
def accountLeftovers (s : State) : State :=
  let left := s.calendar.dueList
  let s :=
    left.foldl
      (fun s i => bump .pollsMissed (modifyCell i (fun c => { c with missCount := min 255 (c.missCount + 1) }) s)) s
  let s := { s with calendar := { s.calendar with dueList := [] } }
  if left = [] then s else raise .cycleOverrun none (BitVec.ofNat 16 left.length) s

end Sys2Proof.Machine
end

