-- ==== Sys2Proof/Machine/PoolOps.lean ====
section
/-! DEFINITION. Shared operations of the request pool: slots, class queues, entering REPLYING, the outcome of a granted
request, flushes and freeing (chapter 1). -/

namespace Sys2Proof.Machine

/-- A slot's contents replaced. -/
def putSlot (i : SlotIx) (x : Option Slot) (s : State) : State :=
  { s with pool := { s.pool with slots := s.pool.slots.set i.val x i.isLt } }

/-- The record of an occupied slot changed; a free slot stays free. -/
def modifySlot (i : SlotIx) (f : Slot → Slot) (s : State) : State :=
  putSlot i ((s.pool.slots[i]).map f) s

/-- The number of free slots (R3). -/
def freeSlots (s : State) : Nat :=
  s.pool.slots.toList.countP Option.isNone

/-- The pool has room for a request of a class (R3). -/
def hasRoom (s : State) (cls : Class) : Bool :=
  match cls with
  | .urgent => decide (1 ≤ freeSlots s)
  | .normal => decide (Config.urgentReserve < freeSlots s)
  | .bulk => decide (Config.urgentReserve < freeSlots s)

/-- The free slot that takes an admitted request: the lowest, which no frame can observe (R3; log entry 8). -/
def firstFree (s : State) : Option SlotIx :=
  (List.finRange 32).find? (fun i => (s.pool.slots[i]).isNone)

/-- The three class queues in the order in which a flush takes them (R17). -/
def queueOrder (p : Pool) : List SlotIx :=
  p.urgent ++ p.normal ++ p.bulk

/-- Slots that satisfy `p` leave the class queues; the others keep their order (R5). -/
def leaveQueues (p : SlotIx → Bool) (s : State) : State :=
  { s with
    pool :=
      { s.pool with
        urgent := s.pool.urgent.filter (fun i => !p i)
        normal := s.pool.normal.filter (fun i => !p i)
        bulk := s.pool.bulk.filter (fun i => !p i) } }

/-- A slot joins the tail of its class queue (R3). -/
def joinTail (cls : Class) (i : SlotIx) (s : State) : State :=
  match cls with
  | .urgent => { s with pool := { s.pool with urgent := s.pool.urgent ++ [i] } }
  | .normal => { s with pool := { s.pool with normal := s.pool.normal ++ [i] } }
  | .bulk => { s with pool := { s.pool with bulk := s.pool.bulk ++ [i] } }

/-- A slot returns to the head of its class queue (R10). -/
def joinHead (cls : Class) (i : SlotIx) (s : State) : State :=
  match cls with
  | .urgent => { s with pool := { s.pool with urgent := i :: s.pool.urgent } }
  | .normal => { s with pool := { s.pool with normal := i :: s.pool.normal } }
  | .bulk => { s with pool := { s.pool with bulk := i :: s.pool.bulk } }

/-- Admission (R1, R3): the request takes a free slot as QUEUED at the tail of its class queue. -/
def admitSlot (r : Slot) (s : State) : State :=
  match firstFree s with
  | none => s
  | some i => bump .requestsAdmitted (joinTail r.cls i (putSlot i (some r) s))

/-- A slot that enters REPLYING with a status and detail hands over a write completion (R14). -/
def handsOver (slot : Slot) (status : Status) (detail : Byte) : Bool :=
  slot.op == .write && slot.sentOnce && status != .nodeException &&
    !(status == .abortedLate && detail == abortDetail (some (.exception 0#8)))

/-- The words a slot's request names. -/
def Slot.range (slot : Slot) : PollKey :=
  { node := slot.node, space := slot.space, address := slot.address, count := slot.count }

/-- A slot enters REPLYING: its outcome is written, its reply entry placed, and a write completion handed over where R14
says so (R12, R14, R20). -/
def completeSlot (i : SlotIx) (status : Status) (detail : Byte) (data : List Word) (s : State) : State :=
  match s.pool.slots[i] with
  | none => s
  | some slot =>
    let outcome : SlotOutcome :=
      { status := status, detail := detail, attempts := slot.attempts, stamp := s.time.clock, data := data }
    let s := putSlot i (some { slot with state := .replying, outcome := some outcome }) s
    let s := enqueueUp (.slot i) s
    if handsOver slot status detail then writeCompletion slot.range s else s

/-- The status of a granted request whose transaction ended with a drop result (R12). -/
def activeStatus (result : DropResult) : Status × Byte :=
  match result with
  | .ok _ => (.ok, 0#8)
  | .exception code => (.nodeException, code)
  | .timeout => (.timeout, 0#8)
  | .corrupt d => (.corrupt, d.code)

/-- The data words a READ answered OK carries (R12). -/
def activeData (op : Op) (result : DropResult) : List Word :=
  match op, result with
  | .read, .ok data => data
  | _, _ => []

/-- The status of an ABORT_PENDING slot when its transaction ends (R13). -/
def abortedStatus (slot : Slot) : Status :=
  if slot.op = .write ∧ slot.sentOnce then .abortedLate else .aborted

/-- The transaction of a host slot ends with a final outcome (R12, R13). -/
def finishHost (i : SlotIx) (result : DropResult) (s : State) : State :=
  match s.pool.slots[i] with
  | none => s
  | some slot =>
    if slot.state = .abortPending then completeSlot i (abortedStatus slot) (abortDetail (some result)) [] s
    else completeSlot i (activeStatus result).1 (activeStatus result).2 (activeData slot.op result) s

/-- The transaction of a host slot ends in a jam (R11, R13). -/
def jamHost (i : SlotIx) (s : State) : State :=
  match s.pool.slots[i] with
  | none => s
  | some slot =>
    if slot.state = .abortPending then completeSlot i (abortedStatus slot) (abortDetail none) [] s
    else completeSlot i .lineFault 0#8 [] s

/-- The grant of a host slot is returned (R10, R13). -/
def returnHost (i : SlotIx) (s : State) : State :=
  match s.pool.slots[i] with
  | none => s
  | some slot =>
    if slot.state = .abortPending then completeSlot i (abortedStatus slot) (abortDetail none) [] s
    else joinHead slot.cls i (putSlot i (some { slot with state := .queued }) s)

/-- The slots of a flush whose scope is `p`, in the order it takes them (R17). -/
def flushScope (p : Slot → Bool) (s : State) : List SlotIx :=
  (queueOrder s.pool).filter (fun i => (s.pool.slots[i]).any p)

/-- A flush completes every waiting slot in its scope with a status (R17). -/
def flush (p : Slot → Bool) (status : Status) (s : State) : State :=
  (flushScope p s).foldl (fun s i => completeSlot i status 0#8 [] s)
    (leaveQueues (fun i => (s.pool.slots[i]).all p) s)

/-- The scope of a flush by node (R18). -/
def addressedTo (a : NodeAddr) (slot : Slot) : Bool :=
  slot.node == a

/-- A slot is freed: its record is destroyed and its tag is no longer in use (R20). -/
def freeSlot (i : SlotIx) (s : State) : State :=
  putSlot i none s

/-- The number of occupied slots in a state (R21). -/
def countState (s : State) (state : SlotState) : Nat :=
  s.pool.slots.toList.countP (fun x => x.any (fun slot => slot.state == state))

end Sys2Proof.Machine
end

