-- ==== Sys2Proof/Machine/MonitorOps.lean ====
section
/-! DEFINITION. Shared operations of the Node Monitor: health records, outcomes applied to them, probe timers and the
probe list (chapter 3). -/

namespace Sys2Proof.Machine

/-- One health record changed. -/
def modifyHealth (n : NodeIx) (f : Health → Health) (s : State) : State :=
  { s with monitor := { s.monitor with health := s.monitor.health.set n.val (f s.monitor.health[n]) n.isLt } }

/-- The probe timer of a node is armed from this event (R56). -/
def armProbe (n : NodeIx) (s : State) : State :=
  modifyHealth n
    (fun h => { h with probeDue := some (s.time.clock + ms ((s.config.active.node[n]).probeUnits * 100)) }) s

/-- A node's LISTED claim leaves the probe list; an ACTIVE one stays the engine's (R52, R60, R64). -/
def unlistProbe (n : NodeIx) (s : State) : State :=
  let s := { s with monitor := { s.monitor with probeList := s.monitor.probeList.filter (fun m => m != n) } }
  modifyHealth n (fun h => if h.claim = .listed then { h with claim := .none } else h) s

/-- A probe claim is placed at the tail of the probe list (R56, R62). -/
def listProbe (n : NodeIx) (s : State) : State :=
  let s := { s with monitor := { s.monitor with probeList := s.monitor.probeList ++ [n] } }
  modifyHealth n (fun h => { h with claim := .listed, probeDue := none }) s

/-- A claim removed from the list or dropped from the engine without an outcome: the timer is armed if the node is
OFFLINE (R58). -/
def dropProbe (n : NodeIx) (s : State) : State :=
  let s := modifyHealth n (fun h => { h with claim := .none }) s
  if (s.monitor.health[n]).state = .offline then armProbe n s else s

/-- Every claim of the probe list is removed, head to tail (R58). -/
def emptyProbeList (s : State) : State :=
  let listed := s.monitor.probeList
  listed.foldl (fun s n => dropProbe n s) { s with monitor := { s.monitor with probeList := [] } }

/-- The greater of a recorded latency and a new one (R52). -/
def greaterLatency (old : Option Word32) (new : Word32) : Word32 :=
  match old with
  | none => new
  | some m => if m < new then new else m

/-- A health record after an answer (R52). -/
def Health.answered (latency : Word32) (h : Health) : Health :=
  { h with
    state := .online, failures := 0, successCount := h.successCount + 1#32, lastLatency := some latency
    maxLatency := some (greaterLatency h.maxLatency latency) }

/-- An answer, OK or EXCEPTION, is applied to a node (R52). -/
def applyAnswer (n : NodeIx) (latency : Word32) (s : State) : State :=
  let h := s.monitor.health[n]
  match h.state with
  | .absent => s
  | .disabled => s
  | .offline =>
    let since := h.offlineSince.getD s.time.clock
    let s := modifyHealth n (fun h => { h.answered latency with offlineSince := none, probeDue := none }) s
    let s := unlistProbe n s
    let s := raise .nodeRecovered (some (nodeAddr n)) (wholeMs since s.time.clock) s
    evalNodeIndicator s
  | _ => modifyHealth n (Health.answered latency) s

/-- The slots that a flush by node for this node takes. -/
def nodeScope (n : NodeIx) (s : State) : List SlotIx :=
  flushScope (addressedTo (nodeAddr n)) s

/-- A node enters OFFLINE (R54). -/
def enterOffline (n : NodeIx) (s : State) : State :=
  let s := modifyHealth n (fun h => { h with state := .offline, offlineSince := some s.time.clock }) s
  let flushed := (nodeScope n s).length
  let s := flush (addressedTo (nodeAddr n)) .nodeOffline s
  let s := failCellsOf (nodeAddr n) s
  let s := armProbe n s
  let s := raise .nodeOffline (some (nodeAddr n)) (BitVec.ofNat 16 flushed) s
  evalNodeIndicator s

/-- A health record after a failure, before the threshold is compared (R53). -/
def Health.failed (h : Health) : Health :=
  { h with failures := min 15 (h.failures + 1), failureCount := h.failureCount + 1#32 }

/-- A failure, TIMEOUT or CORRUPT, is applied to a node (R53). -/
def applyFailure (n : NodeIx) (s : State) : State :=
  let h := s.monitor.health[n]
  match h.state with
  | .absent => s
  | .disabled => s
  | .offline => modifyHealth n Health.failed s
  | _ =>
    let s := modifyHealth n Health.failed s
    if (s.config.active.node[n]).threshold ≤ (s.monitor.health[n]).failures then enterOffline n s
    else modifyHealth n (fun h => { h with state := .suspect }) s

/-- A final outcome is applied to a node's health (R52, R53). -/
def applyOutcome (n : NodeIx) (result : DropResult) (latency : Word32) (s : State) : State :=
  match result with
  | .ok _ => applyAnswer n latency s
  | .exception _ => applyAnswer n latency s
  | .timeout => applyFailure n s
  | .corrupt _ => applyFailure n s

/-- A probe's final outcome reaches its owner: the claim is cleared, the outcome applied, and a node that was OFFLINE
and failed again has its timer armed (R59). -/
def probeOutcome (n : NodeIx) (result : DropResult) (latency : Word32) (s : State) : State :=
  let s := modifyHealth n (fun h => { h with claim := .none }) s
  let wasOffline := (s.monitor.health[n]).state == .offline
  let s := applyOutcome n result latency s
  match result with
  | .ok _ => s
  | .exception _ => s
  | _ => if wasOffline then armProbe n s else s

/-- The presence update of one node at an applied commit: present before and after (R64). -/
def updatePresence (before after : Bool) (n : NodeIx) (s : State) : State :=
  match before, after with
  | false, false => s
  | false, true => modifyHealth n (fun _ => Health.cleared .unknown) s
  | true, true => s
  | true, false =>
    let s := modifyHealth n (fun h => { h with state := .absent }) s
    let s := flush (addressedTo (nodeAddr n)) .nodeAbsent s
    let s := unlistProbe n s
    evalNodeIndicator (modifyHealth n (fun _ => Health.cleared .absent) s)

/-- The presence update of every node, in increasing order of address: `old` is the bank that was ACTIVE before the
commit (R64). -/
def updateNodes (old : Tables) (s : State) : State :=
  (List.finRange 30).foldl
    (fun s n => updatePresence (old.node[n]).present (s.config.active.node[n]).present n s) s

end Sys2Proof.Machine
end

