-- ==== Sys2Proof/Machine/Operands.lean ====
section
/-! DEFINITION. The operands of commands: the bits of a character on the drop line, the fields of trunk frames, their form
checks, their byte layouts, and the entry images of the four tables (R24, R25, R92, R102, R103, R111, R130 to R132,
R139). -/

namespace Sys2Proof

/-- The byte a character carries: its data bits, least significant bit first (R24). -/
def LineChar.data (ch : LineChar) : Byte :=
  ch.levels.extractLsb' 1 8

/-- The stop bit was sampled low (R25). -/
def LineChar.framingError (ch : LineChar) : Bool :=
  !ch.levels.getLsbD 9

/-- A character begins with a start bit, which is low (R24). -/
def LineChar.started (ch : LineChar) : Bool :=
  !ch.levels.getLsbD 0

end Sys2Proof

namespace Sys2Proof.Machine

/-! ### Characters on the drop line (R24) -/

/-- The ten bits of a character in the order they are sent: start bit, data bits least significant first, stop bit; there
is no parity bit (R24). -/
def charBits (b : Byte) : List Bool :=
  false :: (List.range 8).map b.getLsbD ++ [true]

/-- The bits of a frame, whose characters follow one another without gaps (R29). -/
def frameBits (frame : List Byte) : List Bool :=
  frame.flatMap charBits

/-! ### READ and WRITE frames -/

/-- Flag bit 0: MAXAGE present (R130). -/
def hasMaxAge (f : RequestFrame) : Bool :=
  f.flags.getLsbD 0

/-- Flag bit 1: MIRROR_ONLY (R130). -/
def mirrorOnly (f : RequestFrame) : Bool :=
  f.flags.getLsbD 1

/-- The space of the space/count byte: bits 7 and 6 (R128). -/
def spaceOf (f : RequestFrame) : Fin 4 :=
  ⟨f.spaceCount.toNat / 64, by have := f.spaceCount.isLt; omega⟩

/-- The count of the space/count byte: bits 5 to 0 hold the count less one (R128). -/
def countOf (f : RequestFrame) : Nat :=
  f.spaceCount.toNat % 64 + 1

/-- The tag of a frame whose tag lies in 0 to 63 (R130). -/
def tagOf (b : Byte) : Tag :=
  Fin.ofNat 64 b.toNat

/-- The node address of a frame whose node lies in 0 to 31 (R130). -/
def nodeOf (b : Byte) : NodeAddr :=
  Fin.ofNat 32 b.toNat

/-- The MaxAge of a READ that carries one, in ms (R131). -/
def maxAgeOf (f : RequestFrame) : Nat :=
  (word16 (byteAt f.tail 0) (byteAt f.tail 1)).toNat

/-- The bytes after the address that the header implies (R92): MaxAge of a READ with MAXAGE, count words of a WRITE. -/
def impliedTail (op : Op) (f : RequestFrame) : Nat :=
  match op with
  | .read => if hasMaxAge f then 2 else 0
  | .write => 2 * countOf f

/-- The form check of READ and WRITE: the first case of R92 that applies. -/
def requestFormFault (op : Op) (f : RequestFrame) : Option BadRequest :=
  if f.tail.length ≠ impliedTail op f then some .length
  else if 63 < f.tag.toNat then some .tag
  else if f.flags.getLsbD 2 || f.flags.getLsbD 3 then some .flags
  else if f.node = 0#8 ∨ 31 < f.node.toNat then some .node
  else if f.node = 31#8 ∧ op = .read then some .broadcastRead
  else if 32 < countOf f then some .count
  else if 65535 < f.address.toNat + countOf f - 1 then some .range
  else if hasMaxAge f ∧ (op = .write ∨ maxAgeOf f = 0) then some .maxAge
  else if mirrorOnly f ∧ ¬ hasMaxAge f then some .mirrorFlag
  else none

/-! ### ABORT and MANAGE frames -/

/-- The form check of ABORT: the first case of R102 that applies. -/
def abortFormFault (f : AbortFrame) : Option BadRequest :=
  if f.tail ≠ [] then some .length
  else if 63 < f.tag.toNat then some .tag
  else if f.flags ≠ 0#4 then some .flags
  else if f.node ≠ 0#8 then some .node
  else if 63 < f.target.toNat then some .target
  else none

/-- The form check of MANAGE: step 1 of R103. -/
def manageFormFault (f : ManageFrame) : Option BadRequest :=
  if f.args.length ≠ f.argLength.toNat then some .length
  else if 63 < f.tag.toNat then some .tag
  else if f.flags ≠ 0#4 then some .flags
  else if f.node ≠ 0#8 then some .node
  else none

/-- Argument byte `i` of a MANAGE frame (R137). -/
def argByte (f : ManageFrame) (i : Nat) : Byte :=
  byteAt f.args i

/-! ### Frames that reach Intake, and their bytes -/

/-- A downstream frame that has passed the receive checks, by its kind; `short` is one too short for its kind's fixed
fields (R131, R132). -/
inductive Downstream where
  | request (op : Op) (f : RequestFrame)
  | abort (f : AbortFrame)
  | manage (code : Byte) (f : ManageFrame)
  | short
  deriving DecidableEq, Repr

/-- Offset 1 of the common header: segment in bits 7 to 4, flags in bits 3 to 0 (R130). -/
def segmentFlags (segment : Fin 16) (flags : BitVec 4) : Byte :=
  BitVec.ofNat 4 segment.val ++ flags

/-- The kind byte of a READ or WRITE (R130). -/
def requestKind (op : Op) : Byte :=
  match op with
  | .read => kindRead
  | .write => kindWrite

/-- The bytes a frame's check covers, for a frame that carries a given segment number (R130, R131). -/
def downstreamCovered (segment : Fin 16) (p : Downstream) : List Byte :=
  match p with
  | .request op f =>
    [requestKind op, segmentFlags segment f.flags, f.tag, f.node, f.spaceCount] ++ be16 f.address ++ f.tail
  | .abort f => [kindAbort, segmentFlags segment f.flags, f.tag, f.node, f.target] ++ f.tail
  | .manage code f => [kindManage, segmentFlags segment f.flags, f.tag, f.node, code, f.argLength] ++ f.args
  | .short => []

/-- The whole frame, check included (R129, R130). -/
def downstreamBytes (segment : Fin 16) (p : Downstream) : List Byte :=
  withCheck (downstreamCovered segment p)

/-- The segment nibble of a frame's common header (R130). -/
def segmentOf (frame : List Byte) : Fin 16 :=
  Fin.ofNat 16 ((byteAt frame 1).toNat / 16)

/-- The flags nibble of a frame's common header (R130). -/
def flagsOf (frame : List Byte) : BitVec 4 :=
  (byteAt frame 1).extractLsb' 0 4

/-- What kind of downstream frame the bytes hold, and its fields (R130 to R132). -/
def parseDownstream (frame : List Byte) : Downstream :=
  let c := coveredBytes frame
  let kind := byteAt frame 0
  let request : RequestFrame :=
    { flags := flagsOf frame, tag := byteAt c 2, node := byteAt c 3, spaceCount := byteAt c 4
      address := word16 (byteAt c 5) (byteAt c 6), tail := c.drop 7 }
  if kind = kindRead then if frame.length < 9 then .short else .request .read request
  else if kind = kindWrite then if frame.length < 9 then .short else .request .write request
  else if kind = kindAbort then
    if frame.length < 7 then .short
    else
      .abort
        { flags := flagsOf frame, tag := byteAt c 2, node := byteAt c 3, target := byteAt c 4, tail := c.drop 5 }
  else if frame.length < 8 then .short
  else
    .manage (byteAt c 4)
      { flags := flagsOf frame, tag := byteAt c 2, node := byteAt c 3, argLength := byteAt c 5, args := c.drop 6 }

/-! ### Entry images (R111, R139) -/

/-- A byte that stands for yes or no (R139). -/
def yesNo (b : Bool) : Byte :=
  if b then 1#8 else 0#8

/-- The class a byte names (R142). -/
def classOf (b : Byte) : Class :=
  if b = 1#8 then .urgent else if b = 2#8 then .normal else .bulk

/-- The number a byte of an image carries. -/
def imageNat (img : List Byte) (i : Nat) : Nat :=
  (byteAt img i).toNat

/-- The 16-bit number at byte `i` of an image. -/
def imageWord (img : List Byte) (i : Nat) : Word :=
  word16 (byteAt img i) (byteAt img (i + 1))

/-- `n` lies outside `lo` to `hi`. -/
def outside (lo hi n : Nat) : Bool :=
  n < lo || hi < n

/-- The lowest number of a field of an ACCESS image that R111 refuses. -/
def accessFault (img : List Byte) : Option Nat :=
  if outside 0 1 (imageNat img 0) then some 1
  else if outside 1 31 (imageNat img 1) then some 2
  else if outside 1 31 (imageNat img 2) || imageNat img 2 < imageNat img 1 then some 3
  else if imageNat img 3 % 16 = 0 then some 4
  else if (imageWord img 6).toNat < (imageWord img 4).toNat then some 6
  else if outside 1 2 (imageNat img 8) then some 7
  else if imageNat img 9 % 4 = 0 then some 8
  else if outside 1 32 (imageNat img 10) then some 9
  else if outside 1 3 (imageNat img 11) then some 10
  else none

/-- The ACCESS entry an image holds (R139). -/
def accessOfImage (img : List Byte) : AccessEntry :=
  { used := byteAt img 0 == 1#8
    nodeFirst := nodeOf (byteAt img 1)
    nodeLast := nodeOf (byteAt img 2)
    spaces := (byteAt img 3).extractLsb' 0 4
    addressFirst := imageWord img 4
    addressLast := imageWord img 6
    verdict := if byteAt img 8 = 1#8 then .permit else .deny
    allowRead := (byteAt img 9).getLsbD 0
    allowWrite := (byteAt img 9).getLsbD 1
    maxCount := imageNat img 10
    cls := classOf (byteAt img 11) }

/-- The image of an ACCESS entry (R139). -/
def accessImage (e : AccessEntry) : List Byte :=
  [yesNo e.used, BitVec.ofNat 8 e.nodeFirst.val, BitVec.ofNat 8 e.nodeLast.val, e.spaces.setWidth 8] ++
    be16 e.addressFirst ++ be16 e.addressLast ++
    [e.verdict.code, (if e.allowRead then 1#8 else 0#8) + (if e.allowWrite then 2#8 else 0#8),
      BitVec.ofNat 8 e.maxCount, e.cls.code]

/-- The lowest number of a field of a POLL image that R111 refuses. -/
def pollFault (img : List Byte) : Option Nat :=
  if outside 0 1 (imageNat img 0) then some 1
  else if outside 1 30 (imageNat img 1) then some 2
  else if outside 0 3 (imageNat img 2) then some 3
  else if outside 1 8 (imageNat img 5) || 65535 < (imageWord img 3).toNat + imageNat img 5 - 1 then some 5
  else if outside 1 64 (imageNat img 6) then some 6
  else if outside 0 63 (imageNat img 7) then some 7
  else if outside 1 8 (imageNat img 8) then some 8
  else none

/-- The POLL entry an image holds (R139). -/
def pollOfImage (img : List Byte) : PollEntry :=
  { used := byteAt img 0 == 1#8
    node := nodeOf (byteAt img 1)
    space := Fin.ofNat 4 (imageNat img 2)
    address := imageWord img 3
    count := imageNat img 5
    period := imageNat img 6
    phase := imageNat img 7
    staleFactor := imageNat img 8 }

/-- Bytes 0 to 8 of the image of a POLL entry (R139). -/
def pollImage9 (e : PollEntry) : List Byte :=
  [yesNo e.used, BitVec.ofNat 8 e.node.val, BitVec.ofNat 8 e.space.val] ++ be16 e.address ++
    [BitVec.ofNat 8 e.count, BitVec.ofNat 8 e.period, BitVec.ofNat 8 e.phase, BitVec.ofNat 8 e.staleFactor]

/-- The lowest number of a field of a NODE image that R111 refuses. -/
def nodeFault (img : List Byte) : Option Nat :=
  if outside 0 1 (imageNat img 0) then some 1
  else if outside 1 255 (imageNat img 1) then some 2
  else if outside 0 3 (imageNat img 2) then some 3
  else if outside 1 15 (imageNat img 3) then some 4
  else if outside 1 255 (imageNat img 4) then some 5
  else none

/-- The NODE entry an image holds (R139). -/
def nodeOfImage (img : List Byte) : NodeEntry :=
  { present := byteAt img 0 == 1#8
    window := imageNat img 1
    retryLimit := imageNat img 2
    threshold := imageNat img 3
    probeUnits := imageNat img 4 }

/-- Bytes 0 to 4 of the image of a NODE entry (R139). -/
def nodeImage5 (e : NodeEntry) : List Byte :=
  [yesNo e.present, BitVec.ofNat 8 e.window, BitVec.ofNat 8 e.retryLimit, BitVec.ofNat 8 e.threshold,
    BitVec.ofNat 8 e.probeUnits]

/-- The lowest number of a field of a SEGMENT image that R110 and R111 refuse. -/
def segmentFault (img : List Byte) : Option Nat :=
  if outside 1 1000 (imageWord img 0).toNat then some 1
  else if outside 2 16 (imageNat img 2) then some 2
  else if outside 10 1000 (imageWord img 3).toNat then some 3
  else if outside 1 16 (imageNat img 5) then some 4
  else if outside 50 5000 (imageWord img 6).toNat then some 5
  else if outside 1 300 (imageWord img 8).toNat then some 6
  else none

/-- The SEGMENT entry an image holds (R139). -/
def segmentOfImage (img : List Byte) : SegmentEntry :=
  { baseCycle := (imageWord img 0).toNat
    guardGap := imageNat img 2
    busyLimit := (imageWord img 3).toNat
    bulkShare := imageNat img 5
    resendInterval := (imageWord img 6).toNat
    sessionTimeout := (imageWord img 8).toNat }

/-- Bytes 0 to 9 of the image of a SEGMENT entry (R139). -/
def segmentImage10 (e : SegmentEntry) : List Byte :=
  be16 (BitVec.ofNat 16 e.baseCycle) ++ [BitVec.ofNat 8 e.guardGap] ++ be16 (BitVec.ofNat 16 e.busyLimit) ++
    [BitVec.ofNat 8 e.bulkShare] ++ be16 (BitVec.ofNat 16 e.resendInterval) ++
    be16 (BitVec.ofNat 16 e.sessionTimeout)

/-- `n` unused bytes, sent as 0 (R128). -/
def zeros (n : Nat) : List Byte :=
  List.replicate n 0#8

/-! ### Naming an entry of a bank -/

/-- An entry of one of the four tables (R109). -/
inductive EntryRef where
  | access (i : Fin 48)
  | poll (i : Fin 64)
  | node (i : Fin 30)
  | segment
  deriving DecidableEq, Repr

/-- The entry that a table code and an index name: 254 when the code names no table, 255 when the index lies outside the
table's range (R109, R111). -/
def entryRef (table index : Byte) : Except Nat EntryRef :=
  if table = 1#8 then
    if h : index.toNat < 48 then .ok (.access ⟨index.toNat, h⟩) else .error 255
  else if table = 2#8 then
    if h : index.toNat < 64 then .ok (.poll ⟨index.toNat, h⟩) else .error 255
  else if table = 3#8 then
    if h : 1 ≤ index.toNat ∧ index.toNat ≤ 30 then .ok (.node ⟨index.toNat - 1, by omega⟩) else .error 255
  else if table = 4#8 then
    if index = 0#8 then .ok .segment else .error 255
  else .error 254

/-- The field an image of a given table is refused for (R111). -/
def imageFault (r : EntryRef) (img : List Byte) : Option Nat :=
  match r with
  | .access _ => accessFault img
  | .poll _ => pollFault img
  | .node _ => nodeFault img
  | .segment => segmentFault img

/-- A bank with one entry replaced by what an image holds (R116, R139). -/
def Tables.writeImage (r : EntryRef) (img : List Byte) (b : Tables) : Tables :=
  match r with
  | .access i => { b with access := b.access.set i.val (accessOfImage img) i.isLt }
  | .poll i => { b with poll := b.poll.set i.val (pollOfImage img) i.isLt }
  | .node i => { b with node := b.node.set i.val (nodeOfImage img) i.isLt }
  | .segment => { b with segment := segmentOfImage img }

/-- A bank with one entry replaced by the cleared contents (R112). -/
def Tables.clearEntry (r : EntryRef) (b : Tables) : Tables :=
  match r with
  | .access i => { b with access := b.access.set i.val Tables.cleared.access[i] i.isLt }
  | .poll i => { b with poll := b.poll.set i.val Tables.cleared.poll[i] i.isLt }
  | .node i => { b with node := b.node.set i.val Tables.cleared.node[i] i.isLt }
  | .segment => { b with segment := Tables.cleared.segment }

/-- The 12-byte image of an entry of a bank (R139). -/
def Tables.image (r : EntryRef) (b : Tables) : List Byte :=
  match r with
  | .access i => accessImage b.access[i]
  | .poll i => pollImage9 b.poll[i] ++ zeros 3
  | .node i => nodeImage5 b.node[i] ++ zeros 7
  | .segment => segmentImage10 b.segment ++ zeros 2

end Sys2Proof.Machine
end

