-- ==== Sys2Proof/Machine/EngineOps.lean ====
section
/-! DEFINITION. Shared operations of the drop engine and the drop arbiter: the grant, attempts, the response and its
checks, the retry decision, delivery, jam and isolation (chapters 1 and 2, R141). -/

namespace Sys2Proof.Machine

/-! ### The line -/

/-- The characters sent without gaps that have ended `us` µs after the first one's start: the greatest number whose
character times, in whole µs, have passed (R24, R29; log entry 3 for the rounding). -/
def charsEndedIn (rate : Fin 4) (us : Nat) : Nat :=
  ((us + 1) * Config.bitRate rate - 1) / 10000000

/-- µs since the first character of the frame under transmission started (R29). -/
def sendingFor (s : State) : Option Nat :=
  s.engine.txStart.map (fun start => microsBetween start s.time.clock)

/-- The characters of the frame under transmission that have ended (R25, R29). -/
def ownCharsEnded (s : State) : Nat :=
  min s.engine.txFrame.length (((sendingFor s).map (charsEndedIn s.rate)).getD 0)

/-- Every character of the frame under transmission has ended (R30, R48). -/
def frameEnded (s : State) : Bool :=
  decide (s.engine.txFrame.length ≤ ownCharsEnded s)

/-- The level of the DROP_TXD pin while the controller drives the line, absent while DROP_DE is released: the bit of the
frame under transmission whose bit time is running, and the stop level past the last one (R24, R29). -/
def dropTxd (s : State) : Option Bool :=
  if s.engine.dropDE then
    some
      ((frameBits s.engine.txFrame).getD (((sendingFor s).getD 0) * Config.bitRate s.rate / 1000000) true)
  else none

/-- The last activity instant: the end of the most recent character seen on the line, the controller's own included
(R25). -/
def State.lastActivity (s : State) : Stamp :=
  match s.engine.port, s.engine.txStart with
  | .sending, some start =>
    if ownCharsEnded s = 0 then s.engine.lastActivity
    else start + BitVec.ofNat 48 (ctMicros s.rate (ownCharsEnded s))
  | _, _ => s.engine.lastActivity

/-- The silence of the line, in µs (R25). -/
def silence (s : State) : Nat :=
  microsBetween s.lastActivity s.time.clock

/-- The silence has reached the guard gap in force (R28). -/
def guardSilent (s : State) : Bool :=
  decide (ctMicros s.rate s.engine.guardGap ≤ silence s)

/-- The silence has reached the busy limit in force (R41). -/
def busySilent (s : State) : Bool :=
  decide (s.engine.busyLimit * 1000 ≤ silence s)

/-- The busy limit in force has elapsed since an instant (R28, R33). -/
def busyElapsed (since : Stamp) (s : State) : Bool :=
  decide (s.engine.busyLimit * 1000 ≤ microsBetween since s.time.clock)

/-- The instant at which the silence reaches the guard gap in force is no later than the one at which the busy limit in
force elapses from an instant on, if no further character comes (R28). -/
def gapFirst (since : Stamp) (s : State) : Bool :=
  decide
    (microsBetween since s.time.clock + ctMicros s.rate s.engine.guardGap ≤ silence s + s.engine.busyLimit * 1000)

/-- The instant at which the busy limit in force elapses from an instant on is no later than the one at which the silence
reaches the guard gap in force, if no further character comes (R28). -/
def busyFirst (since : Stamp) (s : State) : Bool :=
  decide
    (silence s + s.engine.busyLimit * 1000 ≤ microsBetween since s.time.clock + ctMicros s.rate s.engine.guardGap)

/-- The line's last activity is now (R25). -/
def touchLine (s : State) : State :=
  { s with engine := { s.engine with lastActivity := s.time.clock } }

/-! ### Attempts -/

/-- The attempts of the active transaction: of a host request, its slot's (R26). -/
def attemptsOf (s : State) (t : Txn) : Nat :=
  match t.claimant with
  | .host i => ((s.pool.slots[i]).map Slot.attempts).getD 0
  | .poll _ => t.ownAttempts
  | .probe _ => t.ownAttempts

/-- The space/count byte (R128). -/
def spaceCountByte (space : Fin 4) (count : Nat) : Byte :=
  BitVec.ofNat 8 (space.val * 64 + (count - 1))

/-- The drop request frame of a transaction (R29, R141). -/
def requestFrame (t : Txn) : List Byte :=
  withCheck
    ([0xC5#8, BitVec.ofNat 8 t.node.val, t.op.code, spaceCountByte t.space t.count] ++ be16 t.address ++
      (match t.op with
        | .read => []
        | .write => bytesOf t.payload))

/-- An attempt is counted in the transaction (R26, R29). -/
def countAttempt (t : Txn) (s : State) : State :=
  match t.claimant with
  | .host i => modifySlot i (fun slot => { slot with attempts := slot.attempts + 1 }) s
  | .poll _ => { s with engine := { s.engine with txn := some { t with ownAttempts := t.ownAttempts + 1 } } }
  | .probe _ => { s with engine := { s.engine with txn := some { t with ownAttempts := t.ownAttempts + 1 } } }

/-- An attempt begins: the engine enters SENDING with the request frame, whose first character starts now (R29). -/
def beginAttempt (t : Txn) (s : State) : State :=
  let first := attemptsOf s t = 0
  let s := countAttempt t s
  let s := if first then bump .dropTransactions s else s
  { s with
    engine :=
      { s.engine with
        port := .sending, txFrame := requestFrame t, txStart := some s.time.clock, dropDE := true } }

/-- What an attempt leaves behind when it ends: no deadline, stamps, response or discard (R26). -/
def clearAttempt (e : Engine) : Engine :=
  { e with
    deadline := none, endOfRequest := none, firstChar := none, rxBuffer := [], discard := none
    discardStart := none }

/-- The state in which the engine has entered GUARD with a transaction (R27). -/
def guardEntered (t : Txn) (s : State) : State :=
  { s with
    engine :=
      { clearAttempt s.engine with
        port := .guard, txn := some t, guardEntry := s.time.clock
        guardGap := s.config.active.segment.guardGap, busyLimit := s.config.active.segment.busyLimit } }

/-- The engine enters GUARD with a transaction, and goes on to SENDING if the line has been silent long enough
(R27). -/
def enterGuard (t : Txn) (s : State) : State :=
  if guardSilent (guardEntered t s) then beginAttempt t (guardEntered t s) else guardEntered t s

/-! ### The drop arbiter (R6 to R9) -/

/-- The response window granted to a node, absent for node 31 (R26). -/
def grantedWindow (s : State) (a : NodeAddr) : Option Nat :=
  (nodeIx? a).map (fun n => (s.config.active.node[n]).window)

/-- The transaction record of a host slot (R26). -/
def hostTxn (s : State) (i : SlotIx) (slot : Slot) : Txn :=
  { claimant := .host i, node := slot.node, op := slot.op, space := slot.space, address := slot.address
    count := slot.count, payload := slot.payload, ownAttempts := 0, window := grantedWindow s slot.node }

/-- A host slot leaves the head of its queue, becomes ACTIVE and is the engine's transaction (R9, R26). -/
def grantHost (i : SlotIx) (s : State) : State :=
  match s.pool.slots[i] with
  | none => s
  | some slot => enterGuard (hostTxn s i slot) (modifySlot i (fun slot => { slot with state := .active }) s)

/-- A due poll becomes the engine's transaction, its key copied from the ACTIVE entry (R9, R26). -/
def grantPoll (i : CellIx) (s : State) : State :=
  let e := s.config.active.poll[i]
  enterGuard
    { claimant := .poll i, node := e.node, op := .read, space := e.space, address := e.address, count := e.count
      payload := [], ownAttempts := 0, window := grantedWindow s e.node } s

/-- A probe becomes the engine's transaction: a READ of IDENT word 0 (R9, R26, R57). -/
def grantProbe (n : NodeIx) (s : State) : State :=
  enterGuard
    { claimant := .probe n, node := nodeAddr n, op := .read, space := 3, address := 0#16, count := 1, payload := []
      ownAttempts := 0, window := grantedWindow s (nodeAddr n) }
    (modifyHealth n (fun h => { h with claim := .active }) s)

/-- The claim that a grant decision chooses (R7, R8). -/
inductive Grant where
  | urgent (i : SlotIx) (rest : List SlotIx)
  | poll (i : CellIx) (rest : List CellIx)
  | probe (n : NodeIx) (rest : List NodeIx)
  | normal (i : SlotIx) (rest : List SlotIx) (credit : Nat)
  | bulk (i : SlotIx) (rest : List SlotIx)
  deriving DecidableEq, Repr

/-- The choice at rank 4, with the bulk credit it leaves (R8). -/
def chooseOrdinary (normal bulk : List SlotIx) (credit share : Nat) : Option Grant :=
  match normal, bulk with
  | [], [] => none
  | n :: ns, [] => some (.normal n ns credit)
  | n :: ns, b :: bs => if credit < share then some (.normal n ns (credit + 1)) else some (.bulk b bs)
  | [], b :: bs => some (.bulk b bs)

/-- The first claimant that exists, by rank (R7). -/
def chooseGrant (s : State) : Option Grant :=
  match s.pool.urgent, s.calendar.dueList, s.monitor.probeList with
  | u :: us, _, _ => some (.urgent u us)
  | [], d :: ds, _ => some (.poll d ds)
  | [], [], p :: ps => some (.probe p ps)
  | [], [], [] => chooseOrdinary s.pool.normal s.pool.bulk s.pool.credit s.config.active.segment.bulkShare

/-- A grant removes its claimant from its queue or list and hands it to the engine (R9). -/
def takeGrant (g : Grant) (s : State) : State :=
  match g with
  | .urgent i rest => grantHost i { s with pool := { s.pool with urgent := rest } }
  | .poll i rest => grantPoll i { s with calendar := { s.calendar with dueList := rest } }
  | .probe n rest => grantProbe n { s with monitor := { s.monitor with probeList := rest } }
  | .normal i rest credit => grantHost i { s with pool := { s.pool with normal := rest, credit := credit } }
  | .bulk i rest => grantHost i { s with pool := { s.pool with bulk := rest, credit := 0 } }

/-- The grant decision, made while the engine is IDLE and a claimant waits (R6). -/
def decideDrop (s : State) : State :=
  if s.engine.port = .idle then
    match chooseGrant s with
    | none => s
    | some g => takeGrant g s
  else s

/-! ### Isolation (R10, R19, R42 to R44) -/

/-- A flush by port: every QUEUED slot is completed, the due list and the probe list are emptied (R19). -/
def flushPort (status : Status) (s : State) : State :=
  let s := flush (fun _ => true) status s
  emptyProbeList { s with calendar := { s.calendar with dueList := [] } }

/-- Isolation takes effect, and the DROP_ISOLATE that holds a tag is answered after the flush (R44). -/
def isolate (answerIsolate : State → State) (s : State) : State :=
  let s :=
    { s with
      engine :=
        { clearAttempt s.engine with
          port := .isolated, txn := none, pendingIsolate := none, jamStart := none, txFrame := [], txStart := none
          dropDE := false } }
  let s := setLineIndicator false s
  answerIsolate (flushPort .isolated s)

/-- Steps 1 and 2 of isolation are done, and the reply to a pending isolate takes its reserved place (R44). -/
def isolateForPending (tag : Tag) (s : State) : State :=
  isolate (deferredReply tag .ok [.raw [PortState.isolated.code]]) s

/-- The transaction in GUARD is given back to its queue or list (R10). -/
def returnGrant (s : State) : State :=
  match s.engine.txn with
  | none => s
  | some t =>
    match t.claimant with
    | .host i => returnHost i s
    | .poll i => { s with calendar := { s.calendar with dueList := i :: s.calendar.dueList } }
    | .probe n =>
      modifyHealth n (fun h => { h with claim := .listed })
        { s with monitor := { s.monitor with probeList := n :: s.monitor.probeList } }

/-! ### Outcomes (R34 to R37) -/

/-- The response latency of the attempt that has been answered, in µs (R37). -/
def latency (s : State) : Word32 :=
  match s.engine.endOfRequest, s.engine.firstChar with
  | some sent, some first => (first - sent).setWidth 32
  | _, _ => 0#32

/-- Step 1 of delivery: the outcome goes to the claimant's owner (R36). -/
def deliverToOwner (t : Txn) (result : DropResult) (s : State) : State :=
  match t.claimant with
  | .host i => finishHost i result s
  | .poll _ => pollOutcome { node := t.node, space := t.space, address := t.address, count := t.count } result s
  | .probe n => probeOutcome n result (latency s) s

/-- Step 2 of delivery: the outcome of a host request or a poll goes to its node's health record (R36). -/
def deliverToMonitor (t : Txn) (result : DropResult) (s : State) : State :=
  match t.claimant, nodeIx? t.node with
  | .probe _, _ => s
  | _, some n => applyOutcome n result (latency s) s
  | _, none => s

/-- Step 3 of delivery: the engine leaves the transaction for IDLE, or isolation takes effect (R36). -/
def leaveTransaction (s : State) : State :=
  match s.engine.pendingIsolate with
  | some tag => isolateForPending tag s
  | none =>
    { s with
      engine :=
        { clearAttempt s.engine with
          port := .idle, txn := none, txFrame := [], txStart := none, dropDE := false } }

/-- A final outcome is handed on (R36). -/
def deliver (t : Txn) (result : DropResult) (s : State) : State :=
  leaveTransaction (deliverToMonitor t result (deliverToOwner t result s))

/-- The retry limit that a decision reads (R35). -/
def retryLimitOf (s : State) (t : Txn) : Nat :=
  match t.claimant, nodeIx? t.node with
  | .probe _, _ => 0
  | _, some n => if (s.config.active.node[n]).present then (s.config.active.node[n]).retryLimit else 0
  | _, none => 0

/-- The transaction's slot is ABORT_PENDING (R35). -/
def abortIsPending (s : State) (t : Txn) : Bool :=
  match t.claimant with
  | .host i => (s.pool.slots[i]).any (fun slot => slot.state == .abortPending)
  | .poll _ => false
  | .probe _ => false

/-- The retry decision after an attempt that ended TIMEOUT or CORRUPT (R35). -/
def decideRetry (t : Txn) (result : DropResult) (s : State) : State :=
  if attemptsOf s t ≤ retryLimitOf s t ∧ abortIsPending s t = false ∧ s.engine.pendingIsolate = none then
    enterGuard t (bump .retries s)
  else deliver t result s

/-- An attempt ends CORRUPT (R34). -/
def endCorrupt (t : Txn) (d : CorruptDetail) (s : State) : State :=
  decideRetry t (.corrupt d) (bump .corruptResponses s)

/-! ### The response (R32 to R34, R141) -/

/-- The expected length that the five header bytes of a response fix (R32). -/
def expectedLength (buffer : List Byte) : Nat :=
  if byteAt buffer 2 = 0x81#8 ∧ byteAt buffer 3 = 0#8 then 7 + 2 * (byteAt buffer 4).toNat else 7

/-- The checks of a complete response, in order (R34). -/
def checkResponse (t : Txn) (buffer : List Byte) : DropResult :=
  if byteAt buffer 0 ≠ 0xC6#8 then .corrupt .badCheck
  else if byteAt buffer 1 ≠ BitVec.ofNat 8 t.node.val then .corrupt .wrongNode
  else if byteAt buffer 2 ≠ t.op.echo then .corrupt .wrongOp
  else if t.op = .read ∧ byteAt buffer 3 = 0#8 ∧ (byteAt buffer 4).toNat ≠ t.count then .corrupt .badLength
  else if checkHolds buffer = false then .corrupt .badCheck
  else if byteAt buffer 3 = 0#8 then .ok (wordsOf ((coveredBytes buffer).drop 5))
  else .exception (byteAt buffer 3)

/-- An attempt ends with the result of its response (R34). -/
def endResponse (t : Txn) (result : DropResult) (s : State) : State :=
  match result with
  | .corrupt d => endCorrupt t d s
  | r => deliver t r s

/-- Collection stops early (R33). -/
def stopCollecting (d : DiscardDetail) (s : State) : State :=
  { s with engine := { s.engine with discard := some d, discardStart := some s.time.clock } }

/-- The detail of an attempt whose collection stopped early (R33). -/
def DiscardDetail.corrupt (d : DiscardDetail) : CorruptDetail :=
  match d with
  | .framing => .framing
  | .badLength => .badLength

/-- A character is stored in the receive buffer and moves the line's activity (R31, R32). -/
def storeChar (ch : LineChar) (s : State) : State :=
  touchLine { s with engine := { s.engine with rxBuffer := s.engine.rxBuffer ++ [ch.data] } }

/-- The first character of a response is taken (R31). -/
def takeFirst (ch : LineChar) (s : State) : State :=
  let s :=
    storeChar ch
      { s with engine := { s.engine with port := .receiving, deadline := none, firstChar := some s.time.clock } }
  if ch.framingError then stopCollecting .framing s else s

/-- A further character of a response is taken (R32, R33). DESIGN CHOICE (log entry 24): a framing error stops collection
with FRAMING even on the fifth byte of a header that implies more than 72 bytes and on the byte that completes the
response, so neither the length nor the checks of R34 are then looked at. -/
def takeNext (t : Txn) (ch : LineChar) (s : State) : State :=
  if s.engine.discard.isSome then touchLine s
  else
    let s := storeChar ch s
    if ch.framingError then stopCollecting .framing s
    else if s.engine.rxBuffer.length < 5 then s
    else if Config.maxResponse < expectedLength s.engine.rxBuffer then stopCollecting .badLength s
    else if s.engine.rxBuffer.length < expectedLength s.engine.rxBuffer then s
    else endResponse t (checkResponse t s.engine.rxBuffer) s

/-- A stray character (R27, R28, R41). -/
def takeStray (s : State) : State :=
  touchLine (bump .strayCharacters s)

/-- A character is taken from the line: the state of the port decides what it is (R25, R27, R28, R31, R32, R41, R45;
log entry 11). -/
def takeCharacter (ch : LineChar) (s : State) : State :=
  match s.engine.port with
  | .idle => takeStray s
  | .guard => takeStray s
  | .jammed => takeStray s
  | .sending => s
  | .isolated => s
  | .awaiting => takeFirst ch s
  | .receiving =>
    match s.engine.txn with
    | none => s
    | some t => takeNext t ch s

/-! ### Jam (R11, R40) -/

/-- The granted transaction ends without a drop outcome (R11, R58). -/
def jamTransaction (s : State) : State :=
  match s.engine.txn with
  | none => s
  | some t =>
    match t.claimant with
    | .host i => jamHost i s
    | .poll _ => s
    | .probe n => dropProbe n s

/-- The slots that enter REPLYING with LINE_FAULT at a jam: the flush's, and the granted one if it is ACTIVE (R40). -/
def jamCount (s : State) : Nat :=
  (flushScope (fun _ => true) s).length +
    match s.engine.txn with
    | some t =>
      match t.claimant with
      | .host i => if abortIsPending s t || (s.pool.slots[i]).isNone then 0 else 1
      | .poll _ => 0
      | .probe _ => 0
    | none => 0

/-- The port becomes JAMMED (R40). -/
def enterJammed (s : State) : State :=
  let completed := jamCount s
  let s := jamTransaction s
  let s := { s with engine := { clearAttempt s.engine with port := .jammed, txn := none } }
  let s := flushPort .lineFault s
  let s :=
    { s with
      engine := { s.engine with jamStart := some s.time.clock, busyLimit := s.config.active.segment.busyLimit } }
  let s := raise .lineFault none (BitVec.ofNat 16 completed) s
  bump .lineFaults (setLineIndicator true s)

end Sys2Proof.Machine
end

