-- ==== Sys2Proof/Machine/TrunkOps.lean ====
section
/-! DEFINITION. Shared operations of the Trunk Interface: building reply and notice frames, the A-transmit arbiter, the
relay queues and the B transmitter (chapter 8, R134 to R136, R161, R162). -/

namespace Sys2Proof.Machine

/-! ### Frames the controller builds -/

/-- The common header of a frame the controller builds: its own segment, flags 0 (R128, R130). -/
def ownHeader (s : State) (kind tag node : Byte) : List Byte :=
  [kind, segmentFlags s.segment 0#4, tag, node]

/-- A piece of a reply's body, with stamps converted to host time (R128, R170). -/
def pieceBytes (s : State) (p : Piece) : List Byte :=
  match p with
  | .raw bytes => bytes
  | .hostTime stamp => be48 (hostTime s stamp)

/-- The source byte of a reply: source in bits 7 to 4, attempts in bits 3 to 0 (R133). -/
def sourceByte (source attempts : Nat) : Byte :=
  BitVec.ofNat 8 (source * 16 + attempts)

/-- Source byte and age of an immediate reply (R89, R133). -/
def immediateSource (source : Source) : List Byte :=
  match source with
  | .mirror age => sourceByte 2 0 :: be16 age
  | .controller => [sourceByte 3 0]

/-- Source byte of a slot reply: DROP with the attempts when there were any, CONTROLLER otherwise (R20). -/
def slotSource (attempts : Nat) : Byte :=
  if 1 ≤ attempts then sourceByte 1 attempts else sourceByte 3 0

/-- The frame of an immediate reply (R133, R134). -/
def immediateFrame (s : State) (r : Reply) : List Byte :=
  withCheck
    (ownHeader s kindReply r.tag r.node ++ [r.status.code, r.detail] ++ immediateSource r.source ++
      be48 (hostTime s r.stamp) ++ r.body.flatMap (pieceBytes s))

/-- The frame of a slot reply (R20, R133, R134). -/
def slotFrame (s : State) (slot : Slot) (o : SlotOutcome) : List Byte :=
  withCheck
    (ownHeader s kindReply (BitVec.ofNat 8 slot.tag.val) (BitVec.ofNat 8 slot.node.val) ++
      [o.status.code, o.detail, slotSource o.attempts] ++ be48 (hostTime s o.stamp) ++ bytesOf o.data)

/-- The reply frame of an Upstream Queue entry that has none yet (R134). -/
def buildFrame (s : State) (item : UpItem) : List Byte :=
  match item with
  | .immediate r => immediateFrame s r
  | .slot i =>
    match (s.pool.slots[i]).bind (fun slot => slot.outcome.map (slotFrame s slot)) with
    | some frame => frame
    | none => []

/-- The frame of a notice record that receives a sequence number (R135, R136). -/
def noticeFrame (s : State) (r : NoticeRecord) (sequence : Byte) : List Byte :=
  withCheck
    (ownHeader s kindNotice 0#8 0#8 ++
      [sequence, BitVec.ofNat 8 r.kind.code, BitVec.ofNat 8 ((r.node.map Fin.val).getD 0)] ++ be16 r.detail ++
      [BitVec.ofNat 8 r.repeats] ++ be48 (hostTime s r.first) ++ be48 (hostTime s r.last))

/-! ### The A-transmit arbiter (R150, R151, R162) -/

/-- A slot's origin is BROADCAST, so its reply entry is never sent (R20, R151). -/
def isBroadcastSlot (s : State) (i : SlotIx) : Bool :=
  (s.pool.slots[i]).any (fun slot => slot.origin == .broadcast)

/-- BROADCAST slot entries at the head of the Upstream Queue are removed and their slots freed (R151). -/
def discardBroadcastHeads : List UpEntry → State → State
  | [], s => s
  | e :: rest, s =>
    match e.item with
    | .slot i =>
      if isBroadcastSlot s i then
        discardBroadcastHeads rest (freeSlot i { s with trunk := { s.trunk with upstream := rest } })
      else s
    | .immediate _ => s

/-- A frame begins transmission on A for a claimant, which the marker then names (R150). -/
def startA (claimant : UpClaimant) (bytes : List Byte) (s : State) : State :=
  { s with
    trunk :=
      { s.trunk with marker := claimant, aTx := some { claimant := claimant, bytes := bytes, live := true } } }

/-- The UP relay queue is granted, if it waits: its head frame is sent as it arrived (R151). -/
def grantRelay (s : State) : Option State :=
  match s.trunk.upQueue with
  | [] => none
  | frame :: _ => some (startA .upRelay frame s)

/-- The Upstream Queue is granted, if it waits: its head's frame is built at its first grant (R134, R151). -/
def grantUpstream (s : State) : Option State :=
  match s.trunk.upstream with
  | [] => none
  | e :: rest =>
    let frame := e.frame.getD (buildFrame s e.item)
    some (startA .upstream frame { s with trunk := { s.trunk with upstream := { e with frame := some frame } :: rest } })

/-- The loss record ranks before every UNSENT ordinary record (R157, R160). -/
def lossRanksFirst (q : NoticeQueue) : Bool :=
  q.loss.any (fun r => r.flight.isNone) && topUnsentKind q.ordinary != some .resetDone

/-- An UNSENT record becomes IN_FLIGHT with the next sequence and its frame (R162). -/
def NoticeRecord.launch (s : State) (r : NoticeRecord) : NoticeRecord :=
  { r with
    flight :=
      some
        { sequence := s.notices.nextSequence, frame := noticeFrame s r s.notices.nextSequence, sentBefore := false } }

/-- The record that ranks first among the UNSENT ones becomes IN_FLIGHT (R157, R162). -/
def launchFirst (s : State) : NoticeQueue :=
  let q := { s.notices with nextSequence := s.notices.nextSequence + 1#8 }
  if lossRanksFirst s.notices then { q with loss := s.notices.loss.map (NoticeRecord.launch s) }
  else
    match topUnsentKind s.notices.ordinary with
    | none => s.notices
    | some kind =>
      { q with ordinary := modifyFirst (NoticeRecord.unsentOf kind) (NoticeRecord.launch s) s.notices.ordinary }

/-- The frame of the IN_FLIGHT record, as first built (R136). -/
def flightFrame (q : NoticeQueue) : List Byte :=
  ((q.inFlight.bind NoticeRecord.flight).map Flight.frame).getD []

/-- The Notice Queue is granted, if it has an offer: a resend of the IN_FLIGHT record, or the first grant of the
first-ranked UNSENT record (R161, R162). -/
def grantNotice (s : State) : Option State :=
  if offered s then
    let q :=
      if s.notices.inFlight.isSome then { s.notices with resendDue := false } else launchFirst s
    some (startA .notice (flightFrame q) { s with notices := q })
  else none

/-- The grant of one claimant, if it waits. -/
def grantOf (c : UpClaimant) (s : State) : Option State :=
  match c with
  | .upRelay => grantRelay s
  | .upstream => grantUpstream s
  | .notice => grantNotice s

/-- The claimant after another in cyclic order (R150). -/
def UpClaimant.after (c : UpClaimant) : UpClaimant :=
  match c with
  | .upRelay => .upstream
  | .upstream => .notice
  | .notice => .upRelay

/-- The first of the three claimants that waits is granted, in cyclic order after the marker (R150). -/
def grantCyclic (s : State) : State :=
  let c1 := s.trunk.marker.after
  let c2 := c1.after
  let c3 := c2.after
  ((grantOf c1 s).orElse fun _ => (grantOf c2 s).orElse fun _ => grantOf c3 s).getD s

/-- The A-transmit arbiter's decision, made while A is UP and its transmitter sends no frame (R150). -/
def decideA (s : State) : State :=
  if s.trunk.aUp && s.trunk.aTx.isNone then grantCyclic (discardBroadcastHeads s.trunk.upstream s) else s

/-! ### The DOWN relay and the B transmitter (R146, R147) -/

/-- A relayed frame that the residence correction applies to (R132, R147). -/
def isRelayedEpochSet (frame : List Byte) : Bool :=
  byteAt frame 0 == kindManage && frame.length == 14 && byteAt frame 4 == ManageCode.epochSet.byte &&
    byteAt frame 5 == 6#8

/-- A frame as it is sent on B at an instant: an EPOCH_SET has its value advanced by its residence time and its check
recomputed; any other is sent as it arrived (R147). -/
def relayedBytes (now : Stamp) (f : DownFrame) : List Byte :=
  if isRelayedEpochSet f.bytes then
    withCheck (f.bytes.take 6 ++ be48 (word48 ((f.bytes.drop 6).take 6) + (now - f.arrival)))
  else f.bytes

/-- The B transmitter takes the head of the DOWN relay queue when B is UP and it sends no frame (R146). -/
def startB (s : State) : State :=
  match s.trunk.bUp, s.trunk.bTx, s.trunk.downQueue with
  | true, none, f :: rest =>
    { s with trunk := { s.trunk with downQueue := rest, bTx := some (relayedBytes s.time.clock f) } }
  | _, _, _ => s

/-- The code of RELAY_LOSS details (R136). -/
def relayLossUp : Word := 1#16
def relayLossDown : Word := 2#16

/-- A frame is handed to the DOWN relay (R146). -/
def relayDown (bytes : List Byte) (arrival : Stamp) (s : State) : State :=
  if s.trunk.bUp then
    if s.trunk.downQueue.length < Config.relayCapacity then
      startB
        { s with
          trunk := { s.trunk with downQueue := s.trunk.downQueue ++ [{ bytes := bytes, arrival := arrival }] } }
    else raise .relayLoss none relayLossDown (bump .downRelayLost s)
  else bump .downRelayLost s

/-- An upstream frame taken on B joins the UP relay queue or is lost (R148). -/
def relayUp (bytes : List Byte) (s : State) : State :=
  if s.trunk.upQueue.length < Config.relayCapacity then
    { s with trunk := { s.trunk with upQueue := s.trunk.upQueue ++ [bytes] } }
  else raise .relayLoss none relayLossUp (bump .upRelayLost s)

/-- A frame fails the receive checks (R131, R144). -/
def isCorrupt (f : RawFrame) : Bool :=
  !f.symbolsValid || decide (Config.maxTrunkFrame < f.bytes.length) || decide (f.bytes.length < Config.minTrunkFrame) ||
    !checkHolds f.bytes ||
    !([kindRead, kindWrite, kindAbort, kindManage, kindReply, kindNotice].contains (byteAt f.bytes 0))

/-- A frame of an upstream kind (R130). -/
def isUpstreamKind (f : RawFrame) : Bool :=
  byteAt f.bytes 0 == kindReply || byteAt f.bytes 0 == kindNotice

end Sys2Proof.Machine
end

