-- ==== Sys2Proof/Machine/Intake.lean ====
section
/-! DEFINITION. Intake: the ordered checks on READ, WRITE, ABORT and MANAGE, the access search, the limit on immediate
replies, and how a frame on port A reaches Intake or the DOWN relay (chapter 5, R144 to R146, R153). -/

namespace Sys2Proof.Machine

/-! ### A frame on port A (R144 to R146, R153) -/

/-- The arrival instant of a frame taken now (R144). -/
def arrivalInstant (t : Arrival) (s : State) : Stamp :=
  s.time.clock - BitVec.ofNat 48 t.airtime

/-- A frame for this segment, given by its fields, is taken on port A `t.elapsed` µs after the command before it: it is
counted and handed to Intake (R144 to R146). A port that is DOWN takes nothing, a frame too long to be one is corrupt,
and REPEATER mode relays it (R153). -/
def takeDirect (t : Arrival) (p : Downstream) (intake : State → State) (s : State) : State :=
  running t.elapsed
    (fun s =>
      if s.trunk.aUp = false then s
      else if Config.maxTrunkFrame < (downstreamBytes s.segment p).length then bump .aCorrupt s
      else if s.repeater then
        relayDown (downstreamBytes s.segment p) (arrivalInstant t s) (bump .aReceived s)
      else intake (bump .aReceived s)) s

/-- A segment-15 frame, given by its fields, is taken on port A: it is counted, handed to the DOWN relay and to Intake
(R146; log entry 9 for the order), or only relayed in REPEATER mode (R153). -/
def takeBroadcast (t : Arrival) (p : Downstream) (intake : State → State) (s : State) : State :=
  running t.elapsed
    (fun s =>
      if s.trunk.aUp = false then s
      else if Config.maxTrunkFrame < (downstreamBytes Config.repeaterStrap p).length then bump .aCorrupt s
      else
        let s' := relayDown (downstreamBytes Config.repeaterStrap p) (arrivalInstant t s) (bump .aReceived s)
        if s.repeater then s' else intake s') s

/-! ### Refusals and discards -/

/-- A frame is discarded by Intake and counted (R90, R105, R132). -/
def discardFrame (s : State) : State :=
  bump .intakeDiscarded s

/-- A request is refused by an immediate reply, or discarded if the immediate part is full; `effect` is what the refusal
does besides, after the reply (R90, R91, R97). -/
def refuse (tag node : Byte) (status : Status) (detail : Byte) (effect : State → State) (s : State) : State :=
  if placesFull s then discardFrame s else effect (answer tag node status detail [] s)

/-! ### The access check (R95, R96) -/

/-- A request matches an ACCESS entry (R95). -/
def accessMatches (e : AccessEntry) (w : PollKey) : Bool :=
  e.used && decide (e.nodeFirst ≤ w.node) && decide (w.node ≤ e.nodeLast) && e.spaces.getLsbD w.space.val &&
    decide (e.addressFirst.toNat ≤ w.address.toNat) &&
    decide (w.address.toNat + w.count - 1 ≤ e.addressLast.toNat)

/-- The deciding entry: the first used entry that matches (R95). -/
def decidingEntry (b : Tables) (w : PollKey) : Option (Fin 48) :=
  (List.finRange 48).find? (fun i => accessMatches b.access[i] w)

/-- The op is among a PERMIT entry's (R94). -/
def AccessEntry.allows (e : AccessEntry) (op : Op) : Bool :=
  match op with
  | .read => e.allowRead
  | .write => e.allowWrite

/-- The access check: the class the request receives, or why it is refused and the detail of ACCESS_REFUSED (R96, R97). -/
def accessCheck (b : Tables) (op : Op) (w : PollKey) : Except (AccessRefusal × Nat) Class :=
  match decidingEntry b w with
  | none => .error (.noMatch, 255)
  | some i =>
    let e := b.access[i]
    if e.verdict = .deny then .error (.denied, i.val)
    else if e.allows op = false then .error (.op, i.val)
    else if e.maxCount < w.count then .error (.count, i.val)
    else .ok e.cls

/-- ACCESS_REFUSED is raised for a node, with the deciding index or 255 (R97). -/
def raiseRefused (a : NodeAddr) (index : Nat) (s : State) : State :=
  raise .accessRefused (some a) (BitVec.ofNat 16 index) s

/-! ### READ and WRITE (R91) -/

/-- The words a frame that has passed its form check names. -/
def requestRange (f : RequestFrame) : PollKey :=
  { node := nodeOf f.node, space := spaceOf f, address := f.address, count := countOf f }

/-- The record an admitted request is given (R1). -/
def requestRecord (op : Op) (origin : Origin) (cls : Class) (f : RequestFrame) : Slot :=
  { tag := tagOf f.tag, node := nodeOf f.node, op := op, space := spaceOf f, address := f.address, count := countOf f
    payload :=
      (match op with
        | .read => []
        | .write => wordsOf f.tail)
    cls := cls, origin := origin, attempts := 0, sentOnce := false, state := .queued, outcome := none }

/-- Step 6 of R91: the refusal of a port out of service (R100). -/
def portRefusal (s : State) : Option Status :=
  match s.engine.port with
  | .isolated => some .isolated
  | .jammed => some .lineFault
  | _ => none

/-- Step 7 of R91: the refusal of a node out of service, skipped for node 31 (R100). -/
def nodeRefusal (s : State) (a : NodeAddr) : Option Status :=
  if a.val = 31 then none
  else
    match healthOf s a with
    | .absent => some .nodeAbsent
    | .disabled => some .nodeDisabled
    | .offline => some .nodeOffline
    | _ => none

/-- What the checks of steps 6 to 8 refuse a request of a class with, if they do (R100, R101). -/
def lineRefusal (s : State) (a : NodeAddr) (cls : Class) : Option Status :=
  match portRefusal s, nodeRefusal s a with
  | some status, _ => some status
  | none, some status => some status
  | none, none => if hasRoom s cls then none else some .poolFull

/-- A READ is served from a cell (R81). -/
def serveRead (f : RequestFrame) (i : CellIx) (s : State) : State :=
  let c := s.calendar.cells[i]
  let offset := f.address.toNat - (s.config.active.poll[i]).address.toNat
  let stamp := c.updateStamp.getD 0#48
  let words := ((c.values.getD []).drop offset).take (countOf f)
  bump .mirrorServed
    (placeReply
      { tag := f.tag, node := f.node, status := .ok, detail := 0#8
        source := .mirror (BitVec.ofNat 16 (microsBetween stamp s.time.clock / 1000)), stamp := stamp
        body := [.raw (bytesOf words)] } s)

/-- The cell that answers a request at step 4 of R91: only a READ with MaxAge is offered to the mirror (R99). -/
def mirrorOffer (op : Op) (f : RequestFrame) (s : State) : Option CellIx :=
  if op = .read ∧ hasMaxAge f then servingCell s (requestRange f) (maxAgeOf f) else none

/-- Steps 5 to 9 of R91, for a request that the access check passed and no cell serves. -/
def admitOrRefuse (op : Op) (f : RequestFrame) (cls : Class) (s : State) : State :=
  if op = .read ∧ mirrorOnly f then refuse f.tag f.node .notMirrored 0#8 id s
  else
    match lineRefusal s (nodeOf f.node) cls with
    | some status => refuse f.tag f.node status 0#8 id s
    | none => decideDrop (admitSlot (requestRecord op .direct cls f) s)

/-- A direct READ or WRITE passes Intake's checks in order (R91). -/
def intakeRequest (op : Op) (f : RequestFrame) (s : State) : State :=
  decideA <|
    match requestFormFault op f with
    | some d => refuse f.tag f.node .badRequest d.code id s
    | none =>
      if tagInUse s (tagOf f.tag) then refuse f.tag f.node .duplicateTag 0#8 id s
      else
        match accessCheck s.config.active op (requestRange f) with
        | .error (d, index) => refuse f.tag f.node .noAccess d.code (raiseRefused (nodeOf f.node) index) s
        | .ok cls =>
          match mirrorOffer op f s with
          | some i => if placesFull s then discardFrame s else serveRead f i s
          | none => admitOrRefuse op f cls s

/-- A segment-15 WRITE: only one to node 31 is checked, without any reply (R105, R106). -/
def intakeBroadcastWrite (f : RequestFrame) (s : State) : State :=
  decideA <|
    if f.node ≠ 31#8 then discardFrame s
    else if (requestFormFault .write f).isSome then discardFrame s
    else if tagInUse s (tagOf f.tag) then discardFrame s
    else
      match accessCheck s.config.active .write (requestRange f) with
      | .error (_, index) => raiseRefused (nodeOf f.node) index (discardFrame s)
      | .ok cls =>
        match lineRefusal s (nodeOf f.node) cls with
        | some _ => discardFrame s
        | none => decideDrop (admitSlot (requestRecord .write .broadcast cls f) s)

/-! ### ABORT (R15, R102, R125) -/

/-- The session timer is started or restarted for a session id (R114). -/
def startSessionTimer (id : Byte) (s : State) : State :=
  { s with
    config :=
      { s.config with
        session := .opened id (s.time.clock + ms (s.config.active.segment.sessionTimeout * 1000)) } }

/-- A pending COMMIT is withdrawn: it is answered ABORTED and the session returns to OPEN (R125). -/
def withdrawCommit (id : Byte) (tag : Tag) (s : State) : State :=
  startSessionTimer id (deferredReply tag .aborted [] s)

/-- The target of an ABORT, by its holder (R15). -/
inductive AbortTarget where
  | queued (i : SlotIx)
  | active (i : SlotIx)
  | commit (id : Byte) (tag : Tag)
  | nothing
  deriving DecidableEq, Repr

/-- What a target tag is held by (R15). -/
def abortTarget (s : State) (tag : Tag) : AbortTarget :=
  match slotOfTag s tag with
  | some i =>
    match (s.pool.slots[i]).map Slot.state with
    | some .queued => .queued i
    | some .active => .active i
    | _ => .nothing
  | none =>
    match s.config.session with
    | .commitPending id held => if held = tag then .commit id held else .nothing
    | _ => .nothing

/-- An ABORT whose own tag is free acts on its target and is answered (R15). -/
def abortEffect (f : AbortFrame) (s : State) : State :=
  match abortTarget s (tagOf f.target) with
  | .queued i =>
    answer f.tag f.node .ok 0#8 [] (completeSlot i .aborted 0#8 [] (leaveQueues (fun j => j == i) s))
  | .active i => answer f.tag f.node .ok 0#8 [] (modifySlot i (fun slot => { slot with state := .abortPending }) s)
  | .commit id tag => answer f.tag f.node .ok 0#8 [] (withdrawCommit id tag s)
  | .nothing => answer f.tag f.node .unknownTag 0#8 [] s

/-- A direct ABORT (R15, R102). -/
def intakeAbort (f : AbortFrame) (s : State) : State :=
  decideA <|
    if placesFull s then discardFrame s
    else
      match abortFormFault f with
      | some d => answer f.tag f.node .badRequest d.code [] s
      | none =>
        if tagInUse s (tagOf f.tag) then answer f.tag f.node .duplicateTag 0#8 [] s else abortEffect f s

/-! ### MANAGE (R103, R104) -/

/-- The checks of R103 before the code: form and tag. -/
def manageChecks (f : ManageFrame) (rest : State → State) (s : State) : State :=
  decideA <|
    if placesFull s then discardFrame s
    else
      match manageFormFault f with
      | some d => reply f .badRequest d.code [] s
      | none => if tagInUse s (tagOf f.tag) then reply f .duplicateTag 0#8 [] s else rest s

/-- A direct MANAGE frame with a code the controller knows is dispatched to its owner (R103 steps 4 and 5). -/
def intakeManage (code : ManageCode) (owner : ManageFrame → State → State) (f : ManageFrame) (s : State) : State :=
  manageChecks f (fun s => if f.args.length = code.argLength then owner f s else badArgument f s) s

/-- A direct MANAGE frame with a code the controller does not know (R103 step 3). -/
def intakeUnknown (code : Byte) (f : ManageFrame) (s : State) : State :=
  manageChecks f (fun s => reply f .unknownCode code [] s) s

/-- A broadcast MANAGE frame with code EPOCH_SET or SEGMENT_RESET passes the form and argument checks alone (R107). -/
def intakeBroadcastManage (code : ManageCode) (effect : ManageFrame → State → State) (f : ManageFrame) (s : State) :
    State :=
  decideA <|
    if (manageFormFault f).isSome ∨ f.args.length ≠ code.argLength then discardFrame s else effect f s

end Sys2Proof.Machine
end

