-- ==== Sys2Proof/Machine/ClockStatusRequests.lean ====
section
/-! DEFINITION. The Time Base's and the Status Unit's requests: CLOCK_READ, EPOCH_SET, STATUS_READ, COUNTERS_READ,
SEGMENT_RESET with the soft reset of every block, and UNKNOWN_CODE (R103, R139, R140, chapter 10). -/

namespace Sys2Proof.Machine

/-! ### CLOCK_READ and EPOCH_SET -/

/-- The CLOCK_READ result: host time, segment clock and epoch offset at the arrival instant (R171). -/
def clockResult (arrival : Stamp) (s : State) : List Piece :=
  [.raw (be48 (hostTime s arrival) ++ be48 arrival ++ be48 s.time.epoch)]

/-- CLOCK_READ's owner (R171). -/
def ownClockRead (t : Arrival) (f : ManageFrame) (s : State) : State :=
  reply f .ok 0#8 (clockResult (arrivalInstant t s) s) s

/-- The epoch offset becomes a value less the arrival instant, modulo 2^48 (R172). -/
def setEpoch (t : Arrival) (f : ManageFrame) (s : State) : State :=
  { s with time := { s.time with epoch := word48 f.args - arrivalInstant t s } }

/-- A direct EPOCH_SET's owner (R172). -/
def ownEpochSet (t : Arrival) (f : ManageFrame) (s : State) : State :=
  let s := setEpoch t f s
  reply f .ok 0#8 [.raw (be48 s.time.epoch)] s

/-! ### STATUS_READ and COUNTERS_READ -/

/-- Byte 2 of a STATUS_READ result: trunk B UP, LINE and NODE indicators (R139). -/
def statusFlags (s : State) : Byte :=
  (if s.trunk.bUp then 4#8 else 0#8) + (if s.status.indLine then 8#8 else 0#8) +
    (if s.status.indNode then 16#8 else 0#8)

/-- Byte 22 of a STATUS_READ result: the loss record held, a record IN_FLIGHT (R139). -/
def noticeFlags (s : State) : Byte :=
  (if s.notices.loss.isSome then 1#8 else 0#8) + (if s.notices.inFlight.isSome then 2#8 else 0#8)

/-- A count as one byte of a result. -/
def countByte (n : Nat) : Byte :=
  BitVec.ofNat 8 n

/-- The number of slot-part entries of the Upstream Queue (R149). -/
def slotEntries (s : State) : Nat :=
  s.trunk.upstream.countP (fun e => !e.isImmediate)

/-- The pool's occupancy and bulk-credit counter (R21, R139). -/
def poolStatus (s : State) : List Byte :=
  [countByte s.pool.urgent.length, countByte s.pool.normal.length, countByte s.pool.bulk.length,
    countByte (countState s .active), countByte (countState s .abortPending), countByte (countState s .replying),
    countByte (freeSlots s), countByte s.pool.credit]

/-- The 23 bytes of a STATUS_READ result (R139, R173). -/
def statusBytes (s : State) : List Byte :=
  [BitVec.ofNat 8 s.segment.val, BitVec.ofNat 8 s.rate.val, statusFlags s, s.status.resetCause.code] ++
    be32 s.config.generation ++ [s.config.session.code, s.config.session.idByte, s.engine.port.code] ++ poolStatus s ++
    [countByte (slotEntries s), countByte (placesTaken s), countByte s.notices.ordinary.length, noticeFlags s]

/-- STATUS_READ's owner: every value as it stands before the reply is placed (R173; log entry 10). -/
def ownStatusRead (f : ManageFrame) (s : State) : State :=
  reply f .ok 0#8 [.raw (statusBytes s)] s

/-- Part 1's capture: the counters into the held snapshot, then zeroed if `clear` (R140). -/
def capture (clear : Bool) (s : State) : State :=
  { s with
    status :=
      { s.status with
        snapshot := s.status.counters, snapshotAt := s.time.clock
        counters := if clear then Vector.replicate 24 0#32 else s.status.counters } }

/-- A COUNTERS_READ result: part, snapshot stamp, twelve counters of the held snapshot (R139, R140). -/
def countersResult (part : Byte) (first : Nat) (s : State) : List Piece :=
  [.raw [part], .hostTime s.status.snapshotAt, .raw (((s.status.snapshot.toList.drop first).take 12).flatMap be32)]

/-- COUNTERS_READ's owner (R138, R140, R175). -/
def ownCountersRead (f : ManageFrame) (s : State) : State :=
  let clear := argByte f 0
  let part := argByte f 1
  if part = 1#8 ∧ (clear = 0#8 ∨ clear = 1#8) then
    let s := capture (clear == 1#8) s
    reply f .ok 0#8 (countersResult 1#8 0 s) s
  else if part = 2#8 ∧ clear = 0#8 then reply f .ok 0#8 (countersResult 2#8 12 s) s
  else badArgument f s

/-! ### SEGMENT_RESET (R178) -/

/-- The pool and the arbiter after a soft reset (R23). -/
def Pool.softReset : Pool :=
  { slots := Vector.replicate 32 none, urgent := [], normal := [], bulk := [], credit := 0 }

/-- The port a soft reset leaves (R48). -/
def PortState.afterReset (port : PortState) : PortState :=
  match port with
  | .sending => .sending
  | .isolated => .isolated
  | _ => .idle

/-- The drop engine after a soft reset: the transaction is abandoned, and a frame being sent, of which `ended` characters
have ended, is cut after its present character (R48; log entry 15). -/
def Engine.softReset (ended : Nat) (e : Engine) : Engine :=
  { clearAttempt e with
    port := e.port.afterReset, txn := none, pendingIsolate := none, jamStart := none
    txFrame := if e.port = .sending then e.txFrame.take (ended + 1) else []
    txStart := if e.port = .sending then e.txStart else none }

/-- A node's health record after a soft reset (R66). -/
def Health.softReset (h : Health) : Health :=
  match h.state with
  | .absent => Health.cleared .absent
  | .disabled => Health.cleared .disabled
  | _ => Health.cleared .unknown

/-- The Node Monitor after a soft reset (R66). -/
def Monitor.softReset (m : Monitor) : Monitor :=
  { health := m.health.map Health.softReset, probeList := [] }

/-- The calendar and the mirror after a soft reset (R87). -/
def Calendar.softReset (now : Stamp) (baseCycle : Nat) : Calendar :=
  { counter := 0#32, nextBoundary := now + ms baseCycle, baseCycle := baseCycle, dueList := []
    cells := Vector.replicate 64 Cell.cleared }

/-- The Configuration Unit after a soft reset (R127). -/
def ConfigUnit.softReset (c : ConfigUnit) : ConfigUnit :=
  { c with shadow := c.active, session := .closed }

/-- A frame under transmission on A whose end has nothing left to complete after a soft reset (R155). -/
def ATransmission.softReset (t : ATransmission) : ATransmission :=
  match t.claimant with
  | .upRelay => t
  | .upstream => { t with live := false }
  | .notice => { t with live := false }

/-- The Trunk Interface after a soft reset (R155). -/
def Trunk.softReset (t : Trunk) : Trunk :=
  { t with upstream := [], marker := .notice, aTx := t.aTx.map ATransmission.softReset }

/-- The Notice Queue after a soft reset (R168). -/
def NoticeQueue.softReset (q : NoticeQueue) : NoticeQueue :=
  { q with ordinary := [], loss := none, heldLoss := none, nextSequence := 0#8, resend := none, resendDue := false }

/-- The Status Unit after a soft reset: counters and held snapshot are zero, neither indicator shows (R140, R176,
R178). -/
def StatusUnit.softReset (now : Stamp) : StatusUnit :=
  { counters := Vector.replicate 24 0#32, snapshot := Vector.replicate 24 0#32, snapshotAt := now, resetCause := .soft
    indLine := false, indNode := false }

/-- Step 1 of SEGMENT_RESET: every block takes its soft-reset effect (R178). -/
def softReset (s : State) : State :=
  { s with
    status := StatusUnit.softReset s.time.clock
    pool := Pool.softReset
    engine := s.engine.softReset (ownCharsEnded s)
    monitor := s.monitor.softReset
    calendar := Calendar.softReset s.time.clock s.config.active.segment.baseCycle
    config := s.config.softReset
    trunk := s.trunk.softReset
    notices := s.notices.softReset }

/-- Step 3 of SEGMENT_RESET: RESET_DONE with detail SOFT is raised (R168, R178). -/
def raiseSoftReset (s : State) : State :=
  raise .resetDone none 3#16 s

/-- A direct SEGMENT_RESET's owner (R178). -/
def ownSegmentReset (f : ManageFrame) (s : State) : State :=
  raiseSoftReset (reply f .ok 0#8 [] (softReset s))

/-- A broadcast SEGMENT_RESET's effect: no reply (R107, R178). -/
def broadcastSegmentReset (s : State) : State :=
  raiseSoftReset (softReset s)

/-! ### The commands -/

/-- CLOCK_READ (R171). -/
def execClockRead (t : Arrival) (f : ManageFrame) (s : State) : Host.Outcome State Fault Refusal :=
  .next (takeDirect t (.manage ManageCode.clockRead.byte f) (intakeManage .clockRead (ownClockRead t) f) s)

/-- EPOCH_SET, direct or broadcast (R107, R172). -/
def execEpochSet (t : Arrival) (scope : Scope) (f : ManageFrame) (s : State) : Host.Outcome State Fault Refusal :=
  match scope with
  | .direct => .next (takeDirect t (.manage ManageCode.epochSet.byte f) (intakeManage .epochSet (ownEpochSet t) f) s)
  | .broadcast =>
    .next (takeBroadcast t (.manage ManageCode.epochSet.byte f) (intakeBroadcastManage .epochSet (setEpoch t) f) s)

/-- STATUS_READ (R173). -/
def execStatusRead (t : Arrival) (f : ManageFrame) (s : State) : Host.Outcome State Fault Refusal :=
  .next (takeDirect t (.manage ManageCode.statusRead.byte f) (intakeManage .statusRead ownStatusRead f) s)

/-- COUNTERS_READ (R140, R175). -/
def execCountersRead (t : Arrival) (f : ManageFrame) (s : State) : Host.Outcome State Fault Refusal :=
  .next (takeDirect t (.manage ManageCode.countersRead.byte f) (intakeManage .countersRead ownCountersRead f) s)

/-- SEGMENT_RESET, direct or broadcast (R107, R178). -/
def execSegmentReset (t : Arrival) (scope : Scope) (f : ManageFrame) (s : State) : Host.Outcome State Fault Refusal :=
  match scope with
  | .direct =>
    .next (takeDirect t (.manage ManageCode.segmentReset.byte f) (intakeManage .segmentReset ownSegmentReset f) s)
  | .broadcast =>
    .next
      (takeBroadcast t (.manage ManageCode.segmentReset.byte f)
        (intakeBroadcastManage .segmentReset (fun _ => broadcastSegmentReset) f) s)

/-- UNKNOWN_CODE: a MANAGE frame whose code the controller does not know (R103). -/
def execUnknownCode (t : Arrival) (code : Byte) (f : ManageFrame) (s : State) : Host.Outcome State Fault Refusal :=
  .next (takeDirect t (.manage code f) (intakeUnknown code f) s)

end Sys2Proof.Machine
end

