-- ==== Sys2Proof/Machine/DropRequests.lean ====
section
/-! DEFINITION. The host's requests to the drop port: DROP_ISOLATE and DROP_RESUME (R42 to R46, R48). -/

namespace Sys2Proof.Machine

/-- The result of DROP_ISOLATE and DROP_RESUME: the drop port state as the reply is placed (R137). -/
def portResult (s : State) : List Piece :=
  [.raw [s.engine.port.code]]

/-- An OK reply with the port state (R42, R43, R46). -/
def answerPort (f : ManageFrame) (s : State) : State :=
  reply f .ok 0#8 (portResult s) s

/-- DROP_ISOLATE becomes the pending isolate: its tag is held and its place reserved, and no reply is placed (R43). -/
def holdIsolate (f : ManageFrame) (s : State) : State :=
  { s with engine := { s.engine with pendingIsolate := some (tagOf f.tag) } }

/-- DROP_ISOLATE's owner (R42, R43, and R48 for a SENDING tail). -/
def ownDropIsolate (f : ManageFrame) (s : State) : State :=
  match s.engine.port with
  | .idle => isolate (answerPort f) s
  | .jammed => isolate (answerPort f) s
  | .guard => isolate (answerPort f) (returnGrant s)
  | .isolated => answerPort f s
  | _ => if s.engine.pendingIsolate.isSome then answerPort f s else holdIsolate f s

/-- The pending isolate is cancelled: it is answered ABORTED in its reserved place (R46). -/
def cancelIsolate (tag : Tag) (s : State) : State :=
  deferredReply tag .aborted [] { s with engine := { s.engine with pendingIsolate := none } }

/-- The isolate that is pending, if one is, is cancelled (R46). -/
def cancelPending (s : State) : State :=
  match s.engine.pendingIsolate with
  | some tag => cancelIsolate tag s
  | none => s

/-- The port leaves ISOLATED: the silence of the line is counted from now (R46). -/
def leaveIsolated (s : State) : State :=
  touchLine { s with engine := { s.engine with port := .idle } }

/-- DROP_RESUME's owner (R46). -/
def ownDropResume (f : ManageFrame) (s : State) : State :=
  match s.engine.port with
  | .isolated => decideDrop (answerPort f (leaveIsolated s))
  | .sending => answerPort f (cancelPending s)
  | .awaiting => answerPort f (cancelPending s)
  | .receiving => answerPort f (cancelPending s)
  | .idle => answerPort f s
  | .guard => answerPort f s
  | .jammed => answerPort f s

/-- DROP_ISOLATE (R43). -/
def execDropIsolate (t : Arrival) (f : ManageFrame) (s : State) : Host.Outcome State Fault Refusal :=
  .next (takeDirect t (.manage ManageCode.dropIsolate.byte f) (intakeManage .dropIsolate ownDropIsolate f) s)

/-- DROP_RESUME (R46). -/
def execDropResume (t : Arrival) (f : ManageFrame) (s : State) : Host.Outcome State Fault Refusal :=
  .next (takeDirect t (.manage ManageCode.dropResume.byte f) (intakeManage .dropResume ownDropResume f) s)

end Sys2Proof.Machine
end

