-- ==== Sys2Proof/Machine/NodeRequests.lean ====
section
/-! DEFINITION. The host's requests to the Node Monitor and to the mirror: NODE_READ, NODE_ENABLE, NODE_DISABLE,
NODE_REVIVE, CELL_READ (R60 to R63, R82, R139). -/

namespace Sys2Proof.Machine

/-- The node a request's argument names, if it lies in 1 to 30 (R104, 3.6). -/
def argNode (f : ManageFrame) : Option NodeIx :=
  if h : 1 ≤ (argByte f 0).toNat ∧ (argByte f 0).toNat ≤ 30 then some ⟨(argByte f 0).toNat - 1, by omega⟩ else none

/-- The result of NODE_ENABLE, NODE_DISABLE and NODE_REVIVE: the node and its health state after the request (R134). -/
def nodeResult (n : NodeIx) (s : State) : List Piece :=
  [.raw [BitVec.ofNat 8 (n.val + 1), (s.monitor.health[n]).state.code]]

/-- A node code is answered with the node's state as it stands (R134). -/
def answerNode (f : ManageFrame) (n : NodeIx) (status : Status) (s : State) : State :=
  reply f status 0#8 (nodeResult n s) s

/-- An optional stamp of a result: host time at the building, or 0 when absent (R139). -/
def optStamp (x : Option Stamp) : Piece :=
  match x with
  | none => .raw (zeros 6)
  | some stamp => .hostTime stamp

/-- Bit `k` of a presence byte (R139). -/
def presenceBit (k : Nat) (present : Bool) : Byte :=
  if present then BitVec.ofNat 8 (2 ^ k) else 0#8

/-- The NODE_READ result (R63, R139). -/
def nodeReadResult (n : NodeIx) (s : State) : List Piece :=
  let h := s.monitor.health[n]
  [.raw
      ([BitVec.ofNat 8 (n.val + 1), h.state.code] ++ nodeImage5 s.config.active.node[n] ++
        [BitVec.ofNat 8 h.failures] ++ be32 h.successCount ++ be32 h.failureCount ++
        be32 (h.lastLatency.getD 0#32) ++ be32 (h.maxLatency.getD 0#32)),
    optStamp h.offlineSince, optStamp h.probeDue,
    .raw
      [h.claim.code,
        presenceBit 0 h.lastLatency.isSome + presenceBit 1 h.maxLatency.isSome + presenceBit 2 h.offlineSince.isSome +
          presenceBit 3 h.probeDue.isSome]]

/-- NODE_READ's owner (R63). -/
def ownNodeRead (f : ManageFrame) (s : State) : State :=
  match argNode f with
  | none => badArgument f s
  | some n => reply f .ok 0#8 (nodeReadResult n s) s

/-- NODE_ENABLE's owner (R61). -/
def ownNodeEnable (f : ManageFrame) (s : State) : State :=
  match argNode f with
  | none => badArgument f s
  | some n =>
    match (s.monitor.health[n]).state with
    | .absent => answerNode f n .nodeAbsent s
    | .disabled => answerNode f n .ok (modifyHealth n (fun h => { h with state := .unknown, failures := 0 }) s)
    | _ => answerNode f n .ok s

/-- A present node becomes DISABLED (R60 steps 1 to 5). DESIGN CHOICE (log entry 25): step 3 is R73's "every cell" for a
node that was OFFLINE too, so an EMPTY cell that a commit has placed there enters FAILED. -/
def disableNode (n : NodeIx) (s : State) : State :=
  let s := modifyHealth n (fun h => { h with state := .disabled }) s
  let s := flush (addressedTo (nodeAddr n)) .nodeDisabled s
  let s := failCellsOf (nodeAddr n) s
  let s := unlistProbe n (modifyHealth n (fun h => { h with probeDue := none, offlineSince := none }) s)
  evalNodeIndicator s

/-- NODE_DISABLE's owner (R60). -/
def ownNodeDisable (f : ManageFrame) (s : State) : State :=
  match argNode f with
  | none => badArgument f s
  | some n =>
    match (s.monitor.health[n]).state with
    | .absent => answerNode f n .nodeAbsent s
    | .disabled => answerNode f n .ok s
    | _ => answerNode f n .ok (disableNode n s)

/-- NODE_REVIVE of an OFFLINE node (R62). -/
def reviveOffline (f : ManageFrame) (n : NodeIx) (s : State) : State :=
  let h := s.monitor.health[n]
  if h.claim ≠ .none then answerNode f n .ok s
  else
    match s.engine.port with
    | .jammed => answerNode f n .lineFault s
    | .isolated => answerNode f n .isolated s
    | _ => if h.probeDue.isSome then answerNode f n .ok (decideDrop (listProbe n s)) else answerNode f n .ok s

/-- NODE_REVIVE's owner (R62). -/
def ownNodeRevive (f : ManageFrame) (s : State) : State :=
  match argNode f with
  | none => badArgument f s
  | some n =>
    match (s.monitor.health[n]).state with
    | .absent => answerNode f n .nodeAbsent s
    | .disabled => answerNode f n .nodeDisabled s
    | .offline => reviveOffline f n s
    | _ => answerNode f n .ok s

/-- A poll of a key is the engine's transaction (R82). -/
def pollActive (s : State) (key : PollKey) : Bool :=
  s.engine.txn.any fun t =>
    match t.claimant with
    | .poll _ => ({ node := t.node, space := t.space, address := t.address, count := t.count } : PollKey) == key
    | .host _ => false
    | .probe _ => false

/-- Where an entry stands in the calendar: 0 NONE, 1 LISTED, 2 ACTIVE, 3 BOTH (R82, R139). -/
def calendarPosition (s : State) (i : CellIx) : Byte :=
  (if s.calendar.dueList.contains i then 1#8 else 0#8) +
    (if pollActive s (s.config.active.poll[i]).key then 2#8 else 0#8)

/-- The eight words of a CELL_READ result: those beyond the cell's values are 0 (R139). -/
def eightWords (values : Option (List Word)) : List Word :=
  ((values.getD []) ++ List.replicate 8 0#16).take 8

/-- The CELL_READ result (R82, R139). -/
def cellReadResult (i : CellIx) (s : State) : List Piece :=
  let c := s.calendar.cells[i]
  let age : Word := (c.updateStamp.map (fun stamp => wholeMs stamp s.time.clock)).getD 0#16
  let failure := (c.lastFailure.map (fun x => [x.1.code, x.2])).getD [0#8, 0#8]
  [.raw
      ([BitVec.ofNat 8 i.val] ++ be32 s.config.generation ++ pollImage9 s.config.active.poll[i] ++
        [c.state.code,
          presenceBit 0 c.values.isSome + presenceBit 1 c.updateStamp.isSome + presenceBit 2 c.limit.isSome +
            presenceBit 3 c.lastFailure.isSome,
          calendarPosition s i] ++
        be16 c.updateCount ++ [BitVec.ofNat 8 c.missCount] ++ failure ++ be16 age),
    optStamp c.updateStamp, optStamp c.limit, .raw (bytesOf (eightWords c.values))]

/-- CELL_READ's owner (R82). -/
def ownCellRead (f : ManageFrame) (s : State) : State :=
  if h : (argByte f 0).toNat < 64 then reply f .ok 0#8 (cellReadResult ⟨(argByte f 0).toNat, h⟩ s) s
  else badArgument f s

/-- NODE_READ (R63). -/
def execNodeRead (t : Arrival) (f : ManageFrame) (s : State) : Host.Outcome State Fault Refusal :=
  .next (takeDirect t (.manage ManageCode.nodeRead.byte f) (intakeManage .nodeRead ownNodeRead f) s)

/-- NODE_ENABLE (R61). -/
def execNodeEnable (t : Arrival) (f : ManageFrame) (s : State) : Host.Outcome State Fault Refusal :=
  .next (takeDirect t (.manage ManageCode.nodeEnable.byte f) (intakeManage .nodeEnable ownNodeEnable f) s)

/-- NODE_DISABLE (R60). -/
def execNodeDisable (t : Arrival) (f : ManageFrame) (s : State) : Host.Outcome State Fault Refusal :=
  .next (takeDirect t (.manage ManageCode.nodeDisable.byte f) (intakeManage .nodeDisable ownNodeDisable f) s)

/-- NODE_REVIVE (R62). -/
def execNodeRevive (t : Arrival) (f : ManageFrame) (s : State) : Host.Outcome State Fault Refusal :=
  .next (takeDirect t (.manage ManageCode.nodeRevive.byte f) (intakeManage .nodeRevive ownNodeRevive f) s)

/-- CELL_READ (R82). -/
def execCellRead (t : Arrival) (f : ManageFrame) (s : State) : Host.Outcome State Fault Refusal :=
  .next (takeDirect t (.manage ManageCode.cellRead.byte f) (intakeManage .cellRead ownCellRead f) s)

end Sys2Proof.Machine
end

