-- ==== Sys2Proof/Machine/NoticeRequests.lean ====
section
/-! DEFINITION. The host's requests to the Notice Queue: NOTICE_ACK and NOTICE_MASK (R160, R165, R166). -/

namespace Sys2Proof.Machine

/-- The sequence of the IN_FLIGHT record, if there is one (R156). -/
def NoticeQueue.flightSequence (q : NoticeQueue) : Option Byte :=
  (q.inFlight.bind NoticeRecord.flight).map Flight.sequence

/-- The loss record that a held loss becomes when the IN_FLIGHT one is acknowledged (R160). -/
def HeldLoss.record (h : HeldLoss) : NoticeRecord :=
  { kind := .noticesLost, node := none, detail := BitVec.ofNat 16 h.kind.code, first := h.first, last := h.last
    repeats := h.count, flight := none }

/-- The IN_FLIGHT record leaves the queue: the resend timer is cleared, and a held loss becomes a new loss record if the
record was the loss record (R160, R165). -/
def NoticeQueue.acknowledge (q : NoticeQueue) : NoticeQueue :=
  let q := { q with resend := none, resendDue := false }
  if q.loss.any (fun r => r.flight.isSome) then
    { q with loss := q.heldLoss.map HeldLoss.record, heldLoss := none }
  else { q with ordinary := q.ordinary.eraseP (fun r => r.flight.isSome) }

/-- The result of STALE_ACK: whether a record is IN_FLIGHT, and its sequence (R134). -/
def staleResult (q : NoticeQueue) : List Piece :=
  match q.flightSequence with
  | none => [.raw [0#8, 0#8]]
  | some sequence => [.raw [1#8, sequence]]

/-- NOTICE_ACK's owner (R165). -/
def ownNoticeAck (f : ManageFrame) (s : State) : State :=
  if s.notices.flightSequence = some (argByte f 0) then
    reply f .ok 0#8 [] { s with notices := s.notices.acknowledge }
  else reply f .staleAck 0#8 (staleResult s.notices) s

/-- The mask a NOTICE_MASK carries (R137). -/
def maskOf (f : ManageFrame) : BitVec 16 :=
  word16 (argByte f 0) (argByte f 1)

/-- The kinds that may be masked: bits 5 to 11 (R166). -/
def maskable : BitVec 16 := 0x0FE0#16

/-- A mask put in force: the UNSENT ordinary records of its kinds leave the queue (R166). -/
def NoticeQueue.putMask (mask : BitVec 16) (q : NoticeQueue) : NoticeQueue :=
  { q with
    mask := mask
    ordinary := q.ordinary.filter (fun r => r.flight.isSome || !mask.getLsbD r.kind.code) }

/-- NOTICE_MASK's owner (R166). -/
def ownNoticeMask (f : ManageFrame) (s : State) : State :=
  if maskOf f &&& ~~~maskable ≠ 0#16 then badArgument f s
  else reply f .ok 0#8 [.raw (be16 (maskOf f))] { s with notices := s.notices.putMask (maskOf f) }

/-- NOTICE_ACK (R165). -/
def execNoticeAck (t : Arrival) (f : ManageFrame) (s : State) : Host.Outcome State Fault Refusal :=
  .next (takeDirect t (.manage ManageCode.noticeAck.byte f) (intakeManage .noticeAck ownNoticeAck f) s)

/-- NOTICE_MASK (R166). -/
def execNoticeMask (t : Arrival) (f : ManageFrame) (s : State) : Host.Outcome State Fault Refusal :=
  .next (takeDirect t (.manage ManageCode.noticeMask.byte f) (intakeManage .noticeMask ownNoticeMask f) s)

end Sys2Proof.Machine
end

