-- ==== Sys2Proof/Machine/Requests.lean ====
section
/-! DEFINITION. READ, WRITE, BROADCAST_WRITE and ABORT (R15, R91, R102, R106). -/

namespace Sys2Proof.Machine

/-- READ: a direct READ frame (R91). -/
def execRead (t : Arrival) (f : RequestFrame) (s : State) : Host.Outcome State Fault Refusal :=
  .next (takeDirect t (.request .read f) (intakeRequest .read f) s)

/-- WRITE: a direct WRITE frame (R91). -/
def execWrite (t : Arrival) (f : RequestFrame) (s : State) : Host.Outcome State Fault Refusal :=
  .next (takeDirect t (.request .write f) (intakeRequest .write f) s)

/-- BROADCAST_WRITE: a segment-15 WRITE frame (R106). -/
def execBroadcastWrite (t : Arrival) (f : RequestFrame) (s : State) : Host.Outcome State Fault Refusal :=
  .next (takeBroadcast t (.request .write f) (intakeBroadcastWrite f) s)

/-- ABORT: a direct ABORT frame (R15). -/
def execAbort (t : Arrival) (f : AbortFrame) (s : State) : Host.Outcome State Fault Refusal :=
  .next (takeDirect t (.abort f) (intakeAbort f) s)

end Sys2Proof.Machine
end

