-- ==== Sys2Proof/Machine/SessionRequests.lean ====
section
/-! DEFINITION. The Configuration Unit: EDIT_OPEN, EDIT_CLOSE, ENTRY_WRITE, ENTRY_READ, COMMIT, the commit checks, and
the application of a commit (chapter 6). -/

namespace Sys2Proof.Machine

/-- The result that NO_SESSION, SESSION_BUSY and COMMIT_PENDING carry: session state and session id (R115). -/
def sessionResult (s : State) : List Piece :=
  [.raw [s.config.session.code, s.config.session.idByte]]

/-- The session becomes CLOSED with SHADOW reloaded from ACTIVE (R114, R118, R127). -/
def closeSession (s : State) : State :=
  { s with config := { s.config with shadow := s.config.active, session := .closed } }

/-- The id after the last one issued: 255 is followed by 1 (R115). -/
def nextSessionId (last : Byte) : Byte :=
  if last = 255#8 then 1#8 else last + 1#8

/-- EDIT_OPEN's owner (R115). -/
def ownEditOpen (f : ManageFrame) (s : State) : State :=
  match s.config.session with
  | .closed =>
    let id := nextSessionId s.config.lastId
    let s := { s with config := { s.config with shadow := s.config.active, lastId := id } }
    let s := startSessionTimer id s
    reply f .ok 0#8 [.raw (id :: be32 s.config.generation)] s
  | _ => reply f .sessionBusy 0#8 (sessionResult s) s

/-- EDIT_CLOSE's owner (R118). -/
def ownEditClose (f : ManageFrame) (s : State) : State :=
  match s.config.session with
  | .closed => reply f .noSession 0#8 (sessionResult s) s
  | .opened id _ =>
    if argByte f 0 = id then reply f .ok 0#8 [] (closeSession s) else reply f .noSession 0#8 (sessionResult s) s
  | .commitPending id _ =>
    if argByte f 0 = id then reply f .commitPending 0#8 (sessionResult s) s
    else reply f .noSession 0#8 (sessionResult s) s

/-- The code of BAD_ENTRY details (R111, R134). -/
def entryFaultCode (n : Nat) : Byte :=
  BitVec.ofNat 8 n

/-- The entry image of an ENTRY_WRITE (R137). -/
def writeImageOf (f : ManageFrame) : List Byte :=
  f.args.drop 4

/-- What an ENTRY_WRITE in an OPEN session makes of SHADOW, or the detail it is refused with (R111, R112, R116). -/
def writtenShadow (f : ManageFrame) (b : Tables) : Except Nat Tables :=
  match entryRef (argByte f 1) (argByte f 2) with
  | .error n => .error n
  | .ok r =>
    if argByte f 3 = 2#8 then .ok (b.clearEntry r)
    else
      match imageFault r (writeImageOf f) with
      | some n => .error n
      | none => .ok (b.writeImage r (writeImageOf f))

/-- ENTRY_WRITE's owner (R116, R138). -/
def ownEntryWrite (f : ManageFrame) (s : State) : State :=
  if argByte f 3 ≠ 1#8 ∧ argByte f 3 ≠ 2#8 then badArgument f s
  else
    match s.config.session with
    | .closed => reply f .noSession 0#8 (sessionResult s) s
    | .commitPending id _ =>
      if argByte f 0 = id then reply f .commitPending 0#8 (sessionResult s) s
      else reply f .noSession 0#8 (sessionResult s) s
    | .opened id _ =>
      if argByte f 0 ≠ id then reply f .noSession 0#8 (sessionResult s) s
      else
        match writtenShadow f s.config.shadow with
        | .error n => reply f .badEntry (entryFaultCode n) [] (startSessionTimer id s)
        | .ok b =>
          reply f .ok 0#8 [] (startSessionTimer id { s with config := { s.config with shadow := b } })

/-- The OK result of ENTRY_READ: table, bank, index, generation, entry image (R137). -/
def entryResult (f : ManageFrame) (r : EntryRef) (b : Tables) (s : State) : List Piece :=
  [.raw ([argByte f 1, argByte f 2, argByte f 3] ++ be32 s.config.generation ++ b.image r)]

/-- ENTRY_READ's owner (R117). -/
def ownEntryRead (f : ManageFrame) (s : State) : State :=
  match entryRef (argByte f 1) (argByte f 3) with
  | .error _ => badArgument f s
  | .ok r =>
    if argByte f 2 = 1#8 then reply f .ok 0#8 (entryResult f r s.config.active s) s
    else if argByte f 2 = 2#8 then
      match s.config.session with
      | .closed => reply f .noSession 0#8 (sessionResult s) s
      | .opened id _ =>
        if argByte f 0 = id then reply f .ok 0#8 (entryResult f r s.config.shadow s) (startSessionTimer id s)
        else reply f .noSession 0#8 (sessionResult s) s
      | .commitPending id _ =>
        if argByte f 0 = id then reply f .ok 0#8 (entryResult f r s.config.shadow s) s
        else reply f .noSession 0#8 (sessionResult s) s
    else badArgument f s

/-- The first check of R120 that a used POLL entry at an index fails. -/
def entryTableFault (b : Tables) (i : CellIx) : Option TableFault :=
  let e := b.poll[i]
  let below := (List.finRange 64).filter (fun j => decide (j < i) && (b.poll[j]).used)
  if e.used = false then none
  else if e.period ≤ e.phase then some .phase
  else if ((nodeIx? e.node).any (fun n => (b.node[n]).present)) = false then some .node
  else if below.any (fun j => (b.poll[j]).key == e.key) then some .key
  else if Config.maxPolledWords < (below.map (fun j => (b.poll[j]).count)).sum + e.count then some .words
  else none

/-- The commit checks: the lowest index that fails one, and the first check it fails (R120). -/
def tablesFault (b : Tables) : Option (TableFault × CellIx) :=
  (List.finRange 64).findSome? (fun i => (entryTableFault b i).map (fun d => (d, i)))

/-- The table code that BAD_TABLE names (R120, R142). -/
def pollTableCode : Byte := 2#8

/-- COMMIT's owner (R119 to R121). -/
def ownCommit (f : ManageFrame) (s : State) : State :=
  match s.config.session with
  | .closed => reply f .noSession 0#8 (sessionResult s) s
  | .commitPending id _ =>
    if argByte f 0 = id then reply f .commitPending 0#8 (sessionResult s) s
    else reply f .noSession 0#8 (sessionResult s) s
  | .opened id _ =>
    if argByte f 0 ≠ id then reply f .noSession 0#8 (sessionResult s) s
    else
      match tablesFault s.config.shadow with
      | some (d, i) =>
        reply f .badTable d.code [.raw [pollTableCode, BitVec.ofNat 8 i.val]] (startSessionTimer id s)
      | none => { s with config := { s.config with session := .commitPending id (tagOf f.tag) } }

/-- The generation after an applied commit: 2^32 - 1 is followed by 1 (R123). -/
def nextGeneration (g : Word32) : Word32 :=
  if g = 0xFFFFFFFF#32 then 1#32 else g + 1#32

/-- Step 1 of the application of a commit: SHADOW becomes ACTIVE and the generation increases (R122). -/
def installShadow (s : State) : State :=
  { s with
    config := { s.config with active := s.config.shadow, generation := nextGeneration s.config.generation } }

/-- A pending commit is applied (R122). -/
def applyCommit (tag : Tag) (s : State) : State :=
  let old := s.config.active
  let s := installShadow s
  let s := updateNodes old s
  let s := rebuildMirror old s
  let s := { s with config := { s.config with session := .closed } }
  let s := deferredReply tag .ok [.raw (be32 s.config.generation)] s
  raise .configApplied none (s.config.generation.setWidth 16) s

/-- EDIT_OPEN (R115). -/
def execEditOpen (t : Arrival) (f : ManageFrame) (s : State) : Host.Outcome State Fault Refusal :=
  .next (takeDirect t (.manage ManageCode.editOpen.byte f) (intakeManage .editOpen ownEditOpen f) s)

/-- EDIT_CLOSE (R118). -/
def execEditClose (t : Arrival) (f : ManageFrame) (s : State) : Host.Outcome State Fault Refusal :=
  .next (takeDirect t (.manage ManageCode.editClose.byte f) (intakeManage .editClose ownEditClose f) s)

/-- ENTRY_WRITE (R116). -/
def execEntryWrite (t : Arrival) (f : ManageFrame) (s : State) : Host.Outcome State Fault Refusal :=
  .next (takeDirect t (.manage ManageCode.entryWrite.byte f) (intakeManage .entryWrite ownEntryWrite f) s)

/-- ENTRY_READ (R117). -/
def execEntryRead (t : Arrival) (f : ManageFrame) (s : State) : Host.Outcome State Fault Refusal :=
  .next (takeDirect t (.manage ManageCode.entryRead.byte f) (intakeManage .entryRead ownEntryRead f) s)

/-- COMMIT (R119). -/
def execCommit (t : Arrival) (f : ManageFrame) (s : State) : Host.Outcome State Fault Refusal :=
  .next (takeDirect t (.manage ManageCode.commit.byte f) (intakeManage .commit ownCommit f) s)

end Sys2Proof.Machine
end

