-- ==== Sys2Proof/Machine/FrameEvents.lean ====
section
/-! DEFINITION. Frames taken on the trunk ports as bytes: the receive checks, the direction check, the segment filter and
the dispatch to Intake and its owners (R88, R103 to R107, R131, R132, R144 to R148, R153). -/

namespace Sys2Proof.Machine

/-- The owner of a management code (R104). -/
def ownerOf (code : ManageCode) (t : Arrival) : ManageFrame → State → State :=
  match code with
  | .editOpen => ownEditOpen
  | .editClose => ownEditClose
  | .entryWrite => ownEntryWrite
  | .entryRead => ownEntryRead
  | .commit => ownCommit
  | .nodeRead => ownNodeRead
  | .nodeEnable => ownNodeEnable
  | .nodeDisable => ownNodeDisable
  | .nodeRevive => ownNodeRevive
  | .cellRead => ownCellRead
  | .dropIsolate => ownDropIsolate
  | .dropResume => ownDropResume
  | .noticeAck => ownNoticeAck
  | .noticeMask => ownNoticeMask
  | .clockRead => ownClockRead t
  | .epochSet => ownEpochSet t
  | .statusRead => ownStatusRead
  | .countersRead => ownCountersRead
  | .segmentReset => ownSegmentReset

/-- A direct MANAGE frame, by its code (R103). -/
def intakeManageCode (t : Arrival) (code : Byte) (f : ManageFrame) (s : State) : State :=
  match ManageCode.ofByte? code with
  | none => intakeUnknown code f s
  | some c => intakeManage c (ownerOf c t) f s

/-- A direct frame is handed to Intake (R88, R132). -/
def intakeDirect (t : Arrival) (p : Downstream) (s : State) : State :=
  match p with
  | .request op f => intakeRequest op f s
  | .abort f => intakeAbort f s
  | .manage code f => intakeManageCode t code f s
  | .short => decideA (discardFrame s)

/-- A broadcast frame is handed to Intake (R105). -/
def intakeBroadcast (t : Arrival) (p : Downstream) (s : State) : State :=
  match p with
  | .request .write f => intakeBroadcastWrite f s
  | .request .read _ => decideA (discardFrame s)
  | .abort _ => decideA (discardFrame s)
  | .manage code f =>
    match ManageCode.ofByte? code with
    | some .epochSet => intakeBroadcastManage .epochSet (setEpoch t) f s
    | some .segmentReset => intakeBroadcastManage .segmentReset (fun _ => broadcastSegmentReset) f s
    | _ => decideA (discardFrame s)
  | .short => decideA (discardFrame s)

/-- A downstream frame that has passed the checks of port A is sorted by its segment number (R146, R153; log entry 9). -/
def sortDownstream (t : Arrival) (bytes : List Byte) (s : State) : State :=
  if s.repeater then relayDown bytes (arrivalInstant t s) s
  else if segmentOf bytes = s.segment then intakeDirect t (parseDownstream bytes) s
  else if segmentOf bytes = 15 then
    intakeBroadcast t (parseDownstream bytes) (relayDown bytes (arrivalInstant t s) s)
  else decideA (relayDown bytes (arrivalInstant t s) s)

/-- A frame is taken on port A (R144, R145). -/
def takeA (t : Arrival) (f : RawFrame) (s : State) : State :=
  if s.trunk.aUp = false then s
  else if isCorrupt f then bump .aCorrupt s
  else if isUpstreamKind f then bump .aMisdirected s
  else sortDownstream t f.bytes (bump .aReceived s)

/-- A_FRAME_RECEIVED (R146). -/
def execAFrameReceived (t : Arrival) (f : RawFrame) (s : State) : Host.Outcome State Fault Refusal :=
  .next (running t.elapsed (takeA t f) s)

/-- A frame is taken on port B (R144, R145, R148). -/
def takeB (f : RawFrame) (s : State) : State :=
  if s.trunk.bUp = false then s
  else if isCorrupt f then bump .bCorrupt s
  else if isUpstreamKind f then decideA (relayUp f.bytes (bump .bReceived s))
  else bump .bMisdirected s

/-- B_FRAME_RECEIVED (R148). -/
def execBFrameReceived (dt : Nat) (f : RawFrame) (s : State) : Host.Outcome State Fault Refusal :=
  .next (running dt (takeB f) s)

end Sys2Proof.Machine
end

