-- ==== Sys2Proof/Machine/LineEvents.lean ====
section
/-! DEFINITION. Events of the drop line: silences and limits in GUARD, the end of the request frame, characters, the
deadline, the ends of an attempt, a cleared jam, and the end of a SENDING tail (R25, R27 to R36, R40, R41, R48). An event
whose condition does not hold changes nothing but the clock (log entry 2). -/

namespace Sys2Proof.Machine

/-- The decisions that an event of the drop line can bring about: the drop arbiter's, then the A-transmit arbiter's (R6,
R150). -/
def settle (s : State) : State :=
  decideA (decideDrop s)

/-- The silence of the line reaches the guard gap in GUARD, no later than the busy limit elapses: an attempt begins (R28,
R29). -/
def guardSilence (s : State) : State :=
  match s.engine.port, s.engine.txn with
  | .guard, some t => if guardSilent s && gapFirst s.engine.guardEntry s then beginAttempt t s else s
  | _, _ => s

/-- GUARD_SILENCE_REACHED (R28). -/
def execGuardSilenceReached (dt : Nat) (s : State) : Host.Outcome State Fault Refusal :=
  .next (running dt guardSilence s)

/-- The busy limit elapses in GUARD without the silence having reached the guard gap before that instant: the port becomes
JAMMED (R28, R40). -/
def busyInGuard (s : State) : State :=
  if s.engine.port = .guard ∧ busyElapsed s.engine.guardEntry s ∧ busyFirst s.engine.guardEntry s then
    settle (enterJammed s)
  else s

/-- BUSY_LIMIT_IN_GUARD (R40). -/
def execBusyLimitInGuard (dt : Nat) (s : State) : Host.Outcome State Fault Refusal :=
  .next (running dt busyInGuard s)

/-- The response window in force at the end of SENDING: the ACTIVE NODE entry's if it is present, else the granted one
(R30). -/
def responseWindow (s : State) (t : Txn) : Nat :=
  match nodeIx? t.node with
  | some n => if (s.config.active.node[n]).present then (s.config.active.node[n]).window else t.window.getD 0
  | none => t.window.getD 0

/-- The request frame has been sent once: a host slot's sent-once becomes true (R1, R30; log entry 13). -/
def markSent (t : Txn) (s : State) : State :=
  match t.claimant with
  | .host i => modifySlot i (fun slot => { slot with sentOnce := true }) s
  | .poll _ => s
  | .probe _ => s

/-- The engine awaits the response from now (R30). -/
def enterAwaiting (t : Txn) (s : State) : State :=
  { s with
    engine :=
      { clearAttempt s.engine with
        port := .awaiting, endOfRequest := some s.time.clock
        deadline := some (s.time.clock + ms (responseWindow s t)) } }

/-- The last character on the line ends: DROP_DE is released and the line's last activity is now (R29, R30, R48). -/
def releaseLine (s : State) : State :=
  { s with
    engine := { s.engine with lastActivity := s.time.clock, txFrame := [], txStart := none, dropDE := false } }

/-- The request frame has been sent whole: the end-of-request stamp is now, and the engine goes on according to the node
(R30). -/
def requestSent (t : Txn) (s : State) : State :=
  let s := releaseLine s
  let s := markSent t { s with engine := { s.engine with endOfRequest := some s.time.clock } }
  if t.node.val = 31 then settle (deliver t (.ok []) s) else enterAwaiting t s

/-- The last character of the request frame ends (R29, R30). -/
def frameSent (s : State) : State :=
  match s.engine.port, s.engine.txn with
  | .sending, some t => if frameEnded s then requestSent t s else s
  | _, _ => s

/-- REQUEST_FRAME_SENT (R30). -/
def execRequestFrameSent (dt : Nat) (s : State) : Host.Outcome State Fault Refusal :=
  .next (running dt frameSent s)

/-- A character ends on the line: only one taken in RECEIVING can end an attempt, and so bring a decision about (R25,
R32). -/
def characterEnds (ch : LineChar) (s : State) : State :=
  if s.engine.port = .receiving then settle (takeCharacter ch s) else takeCharacter ch s

/-- STRAY_CHARACTER (R27; log entry 11). -/
def execStrayCharacter (dt : Nat) (ch : LineChar) (s : State) : Host.Outcome State Fault Refusal :=
  .next (running dt (characterEnds ch) s)

/-- RESPONSE_FIRST_CHARACTER (R31; log entry 11). -/
def execResponseFirstCharacter (dt : Nat) (ch : LineChar) (s : State) : Host.Outcome State Fault Refusal :=
  .next (running dt (characterEnds ch) s)

/-- RESPONSE_CHARACTER (R32; log entry 11). -/
def execResponseCharacter (dt : Nat) (ch : LineChar) (s : State) : Host.Outcome State Fault Refusal :=
  .next (running dt (characterEnds ch) s)

/-- The deadline is reached in AWAITING: the attempt ends TIMEOUT (R31). -/
def deadlineReached (s : State) : State :=
  match s.engine.port, s.engine.txn with
  | .awaiting, some t =>
    if s.engine.deadline.any (reached s) then settle (decideRetry t .timeout (bump .timeouts s)) else s
  | _, _ => s

/-- RESPONSE_DEADLINE (R31). -/
def execResponseDeadline (dt : Nat) (s : State) : Host.Outcome State Fault Refusal :=
  .next (running dt deadlineReached s)

/-- The line has been silent for 4 ct within a response (R32). -/
def gapSilent (s : State) : Bool :=
  decide (ctMicros s.rate 4 ≤ silence s)

/-- 4 ct of silence in RECEIVING, collection not stopped: the attempt ends CORRUPT, TRUNCATED (R32). -/
def truncated (s : State) : State :=
  match s.engine.port, s.engine.txn, s.engine.discard with
  | .receiving, some t, none => if gapSilent s then settle (endCorrupt t .truncated s) else s
  | _, _, _ => s

/-- RESPONSE_TRUNCATED (R32). -/
def execResponseTruncated (dt : Nat) (s : State) : Host.Outcome State Fault Refusal :=
  .next (running dt truncated s)

/-- An attempt whose collection stopped early ends CORRUPT with its discard detail, if its time has come (R33). -/
def endDiscard (due : State → Bool) (s : State) : State :=
  match s.engine.port, s.engine.txn, s.engine.discard with
  | .receiving, some t, some d => if due s then settle (endCorrupt t d.corrupt s) else s
  | _, _, _ => s

/-- DISCARD_SILENCE_REACHED (R33). -/
def execDiscardSilenceReached (dt : Nat) (s : State) : Host.Outcome State Fault Refusal :=
  .next (running dt (endDiscard guardSilent) s)

/-- The busy limit has elapsed since collection stopped (R33). -/
def discardOverdue (s : State) : Bool :=
  s.engine.discardStart.any (fun since => busyElapsed since s)

/-- DISCARD_BUSY_LIMIT (R33). -/
def execDiscardBusyLimit (dt : Nat) (s : State) : Host.Outcome State Fault Refusal :=
  .next (running dt (endDiscard discardOverdue) s)

/-- The JAMMED port returns to IDLE: IND_LINE stops and LINE_RESTORED is raised (R41). -/
def leaveJammed (s : State) : State :=
  let since := s.engine.jamStart.getD s.time.clock
  let s := setLineIndicator false { s with engine := { s.engine with port := .idle, jamStart := none } }
  raise .lineRestored none (wholeMs since s.time.clock) s

/-- The silence of the line reaches the busy limit in JAMMED (R41). -/
def jamSilence (s : State) : State :=
  if s.engine.port = .jammed ∧ busySilent s then settle (leaveJammed s) else s

/-- JAM_CLEARED (R41). -/
def execJamCleared (dt : Nat) (s : State) : Host.Outcome State Fault Refusal :=
  .next (running dt jamSilence s)

/-- The character that a soft reset left in SENDING has ended: DROP_DE is released, and the port enters IDLE or a waiting
isolate takes effect (R48). -/
def leaveTail (s : State) : State :=
  let s := releaseLine s
  match s.engine.pendingIsolate with
  | some tag => isolateForPending tag s
  | none => { s with engine := { s.engine with port := .idle } }

/-- The end of a SENDING tail (R48). -/
def tailEnd (s : State) : State :=
  if s.engine.port = .sending ∧ s.engine.txn = none ∧ frameEnded s then settle (leaveTail s) else s

/-- SENDING_TAIL_END (R48). -/
def execSendingTailEnd (dt : Nat) (s : State) : Host.Outcome State Fault Refusal :=
  .next (running dt tailEnd s)

end Sys2Proof.Machine
end

