-- ==== Sys2Proof/Machine/LinkEvents.lean ====
section
/-! DEFINITION. Link changes and ends of transmissions on the trunk ports (R143, R146, R151, R152, R162 to R164). -/

namespace Sys2Proof.Machine

/-- Port A becomes UP: an IN_FLIGHT record is offered at once, and the A-transmit arbiter decides (R143, R164). -/
def linkAUp (s : State) : State :=
  if s.trunk.aUp then s
  else
    decideA
      { s with
        trunk := { s.trunk with aUp := true }
        notices := { s.notices with resendDue := s.notices.inFlight.isSome } }

/-- TRUNK_A_UP (R143). -/
def execTrunkAUp (dt : Nat) (s : State) : Host.Outcome State Fault Refusal :=
  .next (running dt linkAUp s)

/-- Port A becomes DOWN: a frame under transmission stops and stays with its claimant, and the resend timer stops (R143,
R152, R164). -/
def linkADown (s : State) : State :=
  if s.trunk.aUp then
    { s with
      trunk := { s.trunk with aUp := false, aTx := none }
      notices := { s.notices with resend := none, resendDue := false } }
  else s

/-- TRUNK_A_DOWN (R143). -/
def execTrunkADown (dt : Nat) (s : State) : Host.Outcome State Fault Refusal :=
  .next (running dt linkADown s)

/-- Port B becomes UP: its transmitter serves the DOWN relay queue again (R143). -/
def linkBUp (s : State) : State :=
  if s.trunk.bUp then s else startB { s with trunk := { s.trunk with bUp := true } }

/-- TRUNK_B_UP (R143). -/
def execTrunkBUp (dt : Nat) (s : State) : Host.Outcome State Fault Refusal :=
  .next (running dt linkBUp s)

/-- The frames that the DOWN relay holds, the one under transmission included (R146). -/
def downHeld (t : Trunk) : Nat :=
  t.downQueue.length + t.bTx.toList.length

/-- Port B becomes DOWN: the DOWN relay is cleared, and every frame it held is counted as lost (R146). -/
def linkBDown (s : State) : State :=
  if s.trunk.bUp then
    addCount .downRelayLost (downHeld s.trunk)
      { s with trunk := { s.trunk with bUp := false, downQueue := [], bTx := none } }
  else s

/-- TRUNK_B_DOWN (R146). -/
def execTrunkBDown (dt : Nat) (s : State) : Host.Outcome State Fault Refusal :=
  .next (running dt linkBDown s)

/-- A transmission on B ends: it is counted, and the next head is taken (R146). -/
def transmissionBEnds (s : State) : State :=
  if s.trunk.bTx.isSome then startB (bump .downRelayed { s with trunk := { s.trunk with bTx := none } }) else s

/-- B_TRANSMIT_END (R146). -/
def execBTransmitEnd (dt : Nat) (s : State) : Host.Outcome State Fault Refusal :=
  .next (running dt transmissionBEnds s)

/-- The head of the Upstream Queue has been sent: it leaves, and a slot entry frees its slot (R20, R151). -/
def upstreamSent (s : State) : State :=
  match s.trunk.upstream with
  | [] => s
  | e :: rest =>
    let s := { s with trunk := { s.trunk with upstream := rest } }
    match e.item with
    | .slot i => freeSlot i s
    | .immediate _ => s

/-- A record that has been transmitted once (R162). -/
def NoticeRecord.sent (r : NoticeRecord) : NoticeRecord :=
  { r with flight := r.flight.map (fun x => { x with sentBefore := true }) }

/-- The IN_FLIGHT record, wherever it is held, has been transmitted (R162). -/
def NoticeQueue.markSent (q : NoticeQueue) : NoticeQueue :=
  { q with
    loss := q.loss.map NoticeRecord.sent
    ordinary := modifyFirst (fun r => r.flight.isSome) NoticeRecord.sent q.ordinary }

/-- A transmission of the IN_FLIGHT record has ended: it is counted, and the resend timer is armed (R162, R163). -/
def noticeSent (s : State) : State :=
  match s.notices.inFlight.bind NoticeRecord.flight with
  | none => s
  | some x =>
    let s := bump (if x.sentBefore then .noticesResent else .noticesSent) s
    { s with
      notices :=
        { s.notices.markSent with
          resend := some (s.time.clock + ms s.config.active.segment.resendInterval) } }

/-- What the end of a transmission on A completes for the claimant that was granted (R151). -/
def completeA (tx : ATransmission) (s : State) : State :=
  match tx.claimant with
  | .upRelay => bump .upRelayed { s with trunk := { s.trunk with upQueue := s.trunk.upQueue.tail } }
  | .upstream => if tx.live then upstreamSent s else s
  | .notice => if tx.live then noticeSent s else s

/-- A transmission on A ends, and a new decision follows (R151). -/
def transmissionAEnds (s : State) : State :=
  match s.trunk.aTx with
  | none => s
  | some tx => decideA (completeA tx { s with trunk := { s.trunk with aTx := none } })

/-- A_TRANSMIT_END (R151). -/
def execATransmitEnd (dt : Nat) (s : State) : Host.Outcome State Fault Refusal :=
  .next (running dt transmissionAEnds s)

end Sys2Proof.Machine
end

