-- ==== Sys2Proof/Machine/ResetEvents.lean ====
section
/-! DEFINITION. Hard reset: its beginning and its release (R177 and the hard-reset values of every block). -/

namespace Sys2Proof.Machine

/-- The straps that are latched. -/
def State.straps (s : State) : Straps :=
  { segment := s.segment, rate := s.rate }

/-- The cause of a reset that begins now: power-up is POWER, and RESET_N is PIN unless a reset is under way already
(R177). -/
def beginCause (source : ResetSource) (held : Option ResetCause) : ResetCause :=
  match source with
  | .powerUp => .power
  | .resetPin => held.getD .pin

/-- The controller while it is held in reset: everything in progress is lost, and the straps last latched stay (R177;
log entry 7). -/
def beginReset (source : ResetSource) (s : State) : State :=
  { State.blank s.straps (beginCause source s.held) with
    held := some (beginCause source s.held), pending := s.pending }

/-- HARD_RESET_BEGIN (R177). -/
def execHardResetBegin (source : ResetSource) (s : State) : Host.Outcome State Fault Refusal :=
  .next (beginReset source s)

/-- The detail of RESET_DONE (R136, R167). -/
def ResetCause.detail (cause : ResetCause) : Word :=
  match cause with
  | .power => 1#16
  | .pin => 2#16
  | .soft => 3#16

/-- The release of reset: the straps are latched, every block is at its hard-reset value, and RESET_DONE is raised (R167,
R177). A release with no reset under way is a whole RESET_N pulse (log entry 7). -/
def releaseReset (straps : Straps) (s : State) : State :=
  let cause := s.held.getD .pin
  raise .resetDone none cause.detail { State.blank straps cause with pending := s.pending }

/-- HARD_RESET (R177). -/
def execHardReset (straps : Straps) (s : State) : Host.Outcome State Fault Refusal :=
  .next (releaseReset straps s)

end Sys2Proof.Machine
end

