-- ==== Sys2Proof/Machine/TimerEvents.lean ====
section
/-! DEFINITION. Events of the controller's own timers: the base-cycle boundary with the application of a commit, and the
expiries of a cell's freshness, a probe timer, the session timer and the resend timer (R56, R69, R77, R114, R163). An
event whose instant has not been reached changes nothing but the clock (log entry 2). -/

namespace Sys2Proof.Machine

/-- Step 3 of a boundary: a pending commit is applied (R69, R122). -/
def applyPending (s : State) : State :=
  match s.config.session with
  | .commitPending _ tag => applyCommit tag s
  | _ => s

/-- Step 2 of a boundary: the base-cycle counter increases (R69). -/
def countCycle (s : State) : State :=
  { s with calendar := { s.calendar with counter := s.calendar.counter + 1#32 } }

/-- Step 4 of a boundary: the base cycle is read and the next boundary set from this one's instant (R69). -/
def scheduleBoundary (s : State) : State :=
  { s with
    calendar :=
      { s.calendar with
        baseCycle := s.config.active.segment.baseCycle
        nextBoundary := s.calendar.nextBoundary + ms s.config.active.segment.baseCycle } }

/-- Step 5 of a boundary: the new due list is formed (R71). -/
def formDue (s : State) : State :=
  { s with calendar := { s.calendar with dueList := formDueList s } }

/-- The five steps of a base-cycle boundary (R69). -/
def boundary (s : State) : State :=
  formDue (scheduleBoundary (applyPending (countCycle (accountLeftovers s))))

/-- The segment clock reaches the next boundary (R69). -/
def boundaryReached (s : State) : State :=
  if reached s s.calendar.nextBoundary then settle (boundary s) else s

/-- BASE_CYCLE_BOUNDARY (R69). -/
def execBaseCycleBoundary (dt : Nat) (s : State) : Host.Outcome State Fault Refusal :=
  .next (running dt boundaryReached s)

/-- The age of a FRESH cell exceeds its limit: the cell becomes STALE (R77). -/
def freshnessPast (i : CellIx) (s : State) : State :=
  if (s.calendar.cells[i]).state = .fresh ∧ (s.calendar.cells[i]).limit.any (fun limit => limit < s.time.clock) then
    modifyCell i Cell.stale s
  else s

/-- FRESHNESS_EXPIRY (R77). -/
def execFreshnessExpiry (dt : Nat) (cell : CellIx) (s : State) : Host.Outcome State Fault Refusal :=
  .next (running dt (freshnessPast cell) s)

/-- A probe timer expires: it is armed again while the port is out of service, and otherwise the node's claim joins the
probe list (R56). -/
def probeDueReached (n : NodeIx) (s : State) : State :=
  if (s.monitor.health[n]).probeDue.any (reached s) then
    match s.engine.port with
    | .jammed => armProbe n s
    | .isolated => armProbe n s
    | _ => settle (listProbe n s)
  else s

/-- PROBE_TIMER_EXPIRY (R56). -/
def execProbeTimerExpiry (dt : Nat) (node : NodeIx) (s : State) : Host.Outcome State Fault Refusal :=
  .next (running dt (probeDueReached node) s)

/-- The session expires: its edits are lost and SESSION_EXPIRED is raised (R114). -/
def expireSession (id : Byte) (s : State) : State :=
  raise .sessionExpired none (id.setWidth 16) (closeSession s)

/-- The segment clock reaches the session's expiry (R114). -/
def sessionExpiry (s : State) : State :=
  match s.config.session with
  | .opened id expiry => if reached s expiry then decideA (expireSession id s) else s
  | _ => s

/-- SESSION_TIMER_EXPIRY (R114). -/
def execSessionTimerExpiry (dt : Nat) (s : State) : Host.Outcome State Fault Refusal :=
  .next (running dt sessionExpiry s)

/-- The resend timer expires: the IN_FLIGHT record is offered again (R163). -/
def resendExpiry (s : State) : State :=
  if s.notices.resend.any (reached s) then
    decideA { s with notices := { s.notices with resend := none, resendDue := true } }
  else s

/-- NOTICE_RESEND_EXPIRY (R163). -/
def execNoticeResendExpiry (dt : Nat) (s : State) : Host.Outcome State Fault Refusal :=
  .next (running dt resendExpiry s)

end Sys2Proof.Machine
end

