-- ==== Sys2Proof/Machine/Dispatch.lean ====
section
/-! DEFINITION. One arm per command: its meaning. -/

namespace Sys2Proof.Machine

def exec (i : Instr) (s : State) : Host.Outcome State Fault Refusal :=
  match i with
  | .hardReset straps => Sys2Proof.Machine.execHardReset straps s
  | .trunkAUp dt => Sys2Proof.Machine.execTrunkAUp dt s
  | .trunkADown dt => Sys2Proof.Machine.execTrunkADown dt s
  | .trunkBUp dt => Sys2Proof.Machine.execTrunkBUp dt s
  | .trunkBDown dt => Sys2Proof.Machine.execTrunkBDown dt s
  | .aFrameReceived t f => Sys2Proof.Machine.execAFrameReceived t f s
  | .bFrameReceived dt f => Sys2Proof.Machine.execBFrameReceived dt f s
  | .bTransmitEnd dt => Sys2Proof.Machine.execBTransmitEnd dt s
  | .aTransmitEnd dt => Sys2Proof.Machine.execATransmitEnd dt s
  | .read t f => Sys2Proof.Machine.execRead t f s
  | .write t f => Sys2Proof.Machine.execWrite t f s
  | .broadcastWrite t f => Sys2Proof.Machine.execBroadcastWrite t f s
  | .abort t f => Sys2Proof.Machine.execAbort t f s
  | .editOpen t f => Sys2Proof.Machine.execEditOpen t f s
  | .editClose t f => Sys2Proof.Machine.execEditClose t f s
  | .entryWrite t f => Sys2Proof.Machine.execEntryWrite t f s
  | .entryRead t f => Sys2Proof.Machine.execEntryRead t f s
  | .commit t f => Sys2Proof.Machine.execCommit t f s
  | .nodeRead t f => Sys2Proof.Machine.execNodeRead t f s
  | .nodeEnable t f => Sys2Proof.Machine.execNodeEnable t f s
  | .nodeDisable t f => Sys2Proof.Machine.execNodeDisable t f s
  | .nodeRevive t f => Sys2Proof.Machine.execNodeRevive t f s
  | .cellRead t f => Sys2Proof.Machine.execCellRead t f s
  | .dropIsolate t f => Sys2Proof.Machine.execDropIsolate t f s
  | .dropResume t f => Sys2Proof.Machine.execDropResume t f s
  | .noticeAck t f => Sys2Proof.Machine.execNoticeAck t f s
  | .noticeMask t f => Sys2Proof.Machine.execNoticeMask t f s
  | .clockRead t f => Sys2Proof.Machine.execClockRead t f s
  | .epochSet t scope f => Sys2Proof.Machine.execEpochSet t scope f s
  | .statusRead t f => Sys2Proof.Machine.execStatusRead t f s
  | .countersRead t f => Sys2Proof.Machine.execCountersRead t f s
  | .segmentReset t scope f => Sys2Proof.Machine.execSegmentReset t scope f s
  | .unknownCode t code f => Sys2Proof.Machine.execUnknownCode t code f s
  | .guardSilenceReached dt => Sys2Proof.Machine.execGuardSilenceReached dt s
  | .busyLimitInGuard dt => Sys2Proof.Machine.execBusyLimitInGuard dt s
  | .requestFrameSent dt => Sys2Proof.Machine.execRequestFrameSent dt s
  | .strayCharacter dt ch => Sys2Proof.Machine.execStrayCharacter dt ch s
  | .responseFirstCharacter dt ch => Sys2Proof.Machine.execResponseFirstCharacter dt ch s
  | .responseCharacter dt ch => Sys2Proof.Machine.execResponseCharacter dt ch s
  | .responseDeadline dt => Sys2Proof.Machine.execResponseDeadline dt s
  | .responseTruncated dt => Sys2Proof.Machine.execResponseTruncated dt s
  | .discardSilenceReached dt => Sys2Proof.Machine.execDiscardSilenceReached dt s
  | .discardBusyLimit dt => Sys2Proof.Machine.execDiscardBusyLimit dt s
  | .jamCleared dt => Sys2Proof.Machine.execJamCleared dt s
  | .sendingTailEnd dt => Sys2Proof.Machine.execSendingTailEnd dt s
  | .baseCycleBoundary dt => Sys2Proof.Machine.execBaseCycleBoundary dt s
  | .freshnessExpiry dt cell => Sys2Proof.Machine.execFreshnessExpiry dt cell s
  | .probeTimerExpiry dt node => Sys2Proof.Machine.execProbeTimerExpiry dt node s
  | .sessionTimerExpiry dt => Sys2Proof.Machine.execSessionTimerExpiry dt s
  | .noticeResendExpiry dt => Sys2Proof.Machine.execNoticeResendExpiry dt s
  | .hardResetBegin source => Sys2Proof.Machine.execHardResetBegin source s

end Sys2Proof.Machine
end

