-- ==== Sys2Proof/Machine/Step.lean ====
section
/-! DEFINITION. One step: the command at the front of the queue takes its effect, and with no command waiting a µs of
the segment clock passes. -/

namespace Sys2Proof.Machine

/-- A µs in which no event falls (R169). DESIGN CHOICE (log entry 1). -/
def tick (s : State) : State :=
  running 1 id s

/-- The command at the front of the queue is executed; with none, the segment clock counts (R169; log entries 1, 16). -/
def step (s : State) : Host.Outcome State Fault Refusal :=
  match s.pending with
  | [] => .next (tick s)
  | c :: rest => exec c { s with pending := rest }

/-- The command that a word spells is put at the front of the queue; a word that spells none changes nothing. -/
def State.withFetchWord (s : State) (nbits w : Nat) : State :=
  match decodeTableWord nbits w with
  | some c => { s with pending := c :: s.pending }
  | none => s

end Sys2Proof.Machine
end

