-- ==== Sys2Proof/WellFormed.lean ====
section
/-! DEFINITION. Which commands the environment can give: intervals that a 48-bit clock can count, frames no longer than a
port stores, characters that begin with a start bit, and operands that belong to their row. -/

namespace Sys2Proof

open Machine

/-- An interval that the segment clock can count without passing its range (R169). -/
def Interval.wf (us : Nat) : Bool :=
  decide (us < 2 ^ 48)

/-- A frame's instants are countable. -/
def Arrival.wf (t : Arrival) : Bool :=
  Interval.wf t.elapsed && Interval.wf t.airtime

/-- A frame given by its fields is one a port can take: at most 96 bytes, check included (R130). -/
def Downstream.fits (p : Downstream) : Bool :=
  decide ((downstreamBytes 0 p).length ≤ Config.maxTrunkFrame)

/-- A MANAGE command's frame and instants (R130, R144). -/
def manageWf (t : Arrival) (f : ManageFrame) : Bool :=
  t.wf && Downstream.fits (.manage 0#8 f)

/-- A READ or WRITE command's frame and instants (R130, R144). -/
def requestWf (t : Arrival) (op : Op) (f : RequestFrame) : Bool :=
  t.wf && Downstream.fits (.request op f)

/-- A command that the environment can give. -/
def Instr.wf (i : Instr) : Bool :=
  match i with
  | .hardReset _ => true
  | .trunkAUp dt => Interval.wf dt
  | .trunkADown dt => Interval.wf dt
  | .trunkBUp dt => Interval.wf dt
  | .trunkBDown dt => Interval.wf dt
  | .aFrameReceived t _ => t.wf
  | .bFrameReceived dt _ => Interval.wf dt
  | .bTransmitEnd dt => Interval.wf dt
  | .aTransmitEnd dt => Interval.wf dt
  | .read t f => requestWf t .read f
  | .write t f => requestWf t .write f
  | .broadcastWrite t f => requestWf t .write f && f.node == 31#8
  | .abort t f => t.wf && Downstream.fits (.abort f)
  | .editOpen t f => manageWf t f
  | .editClose t f => manageWf t f
  | .entryWrite t f => manageWf t f
  | .entryRead t f => manageWf t f
  | .commit t f => manageWf t f
  | .nodeRead t f => manageWf t f
  | .nodeEnable t f => manageWf t f
  | .nodeDisable t f => manageWf t f
  | .nodeRevive t f => manageWf t f
  | .cellRead t f => manageWf t f
  | .dropIsolate t f => manageWf t f
  | .dropResume t f => manageWf t f
  | .noticeAck t f => manageWf t f
  | .noticeMask t f => manageWf t f
  | .clockRead t f => manageWf t f
  | .epochSet t _ f => manageWf t f
  | .statusRead t f => manageWf t f
  | .countersRead t f => manageWf t f
  | .segmentReset t _ f => manageWf t f
  | .unknownCode t code f => manageWf t f && (ManageCode.ofByte? code).isNone
  | .guardSilenceReached dt => Interval.wf dt
  | .busyLimitInGuard dt => Interval.wf dt
  | .requestFrameSent dt => Interval.wf dt
  | .strayCharacter dt ch => Interval.wf dt && ch.started
  | .responseFirstCharacter dt ch => Interval.wf dt && ch.started
  | .responseCharacter dt ch => Interval.wf dt && ch.started
  | .responseDeadline dt => Interval.wf dt
  | .responseTruncated dt => Interval.wf dt
  | .discardSilenceReached dt => Interval.wf dt
  | .discardBusyLimit dt => Interval.wf dt
  | .jamCleared dt => Interval.wf dt
  | .sendingTailEnd dt => Interval.wf dt
  | .baseCycleBoundary dt => Interval.wf dt
  | .freshnessExpiry dt _ => Interval.wf dt
  | .probeTimerExpiry dt _ => Interval.wf dt
  | .sessionTimerExpiry dt => Interval.wf dt
  | .noticeResendExpiry dt => Interval.wf dt
  | .hardResetBegin _ => true

end Sys2Proof
end

