-- ==== Sys2Proof/Safety.lean ====
section
/-! DEFINITION. What claims are stated in: when the controller takes a frame and what state decides it, what a command is,
and the laws that the spec's prose gives the whole machine (R1, R2, R4, R5, R17, R20, R26, R29, R49,
R50, R55 to R58, R64, R72, R90, R110, R132, R148, R149, R157, R176). -/

namespace Sys2Proof

open Machine

/-- The µs a command lets pass, for every command but the two of a hard reset. -/
def Instr.elapsed (i : Instr) : Option Nat :=
  match i with
  | .hardReset _ => none
  | .trunkAUp dt => some dt
  | .trunkADown dt => some dt
  | .trunkBUp dt => some dt
  | .trunkBDown dt => some dt
  | .aFrameReceived t _ => some t.elapsed
  | .bFrameReceived dt _ => some dt
  | .bTransmitEnd dt => some dt
  | .aTransmitEnd dt => some dt
  | .read t _ => some t.elapsed
  | .write t _ => some t.elapsed
  | .broadcastWrite t _ => some t.elapsed
  | .abort t _ => some t.elapsed
  | .editOpen t _ => some t.elapsed
  | .editClose t _ => some t.elapsed
  | .entryWrite t _ => some t.elapsed
  | .entryRead t _ => some t.elapsed
  | .commit t _ => some t.elapsed
  | .nodeRead t _ => some t.elapsed
  | .nodeEnable t _ => some t.elapsed
  | .nodeDisable t _ => some t.elapsed
  | .nodeRevive t _ => some t.elapsed
  | .cellRead t _ => some t.elapsed
  | .dropIsolate t _ => some t.elapsed
  | .dropResume t _ => some t.elapsed
  | .noticeAck t _ => some t.elapsed
  | .noticeMask t _ => some t.elapsed
  | .clockRead t _ => some t.elapsed
  | .epochSet t _ _ => some t.elapsed
  | .statusRead t _ => some t.elapsed
  | .countersRead t _ => some t.elapsed
  | .segmentReset t _ _ => some t.elapsed
  | .unknownCode t _ _ => some t.elapsed
  | .guardSilenceReached dt => some dt
  | .busyLimitInGuard dt => some dt
  | .requestFrameSent dt => some dt
  | .strayCharacter dt _ => some dt
  | .responseFirstCharacter dt _ => some dt
  | .responseCharacter dt _ => some dt
  | .responseDeadline dt => some dt
  | .responseTruncated dt => some dt
  | .discardSilenceReached dt => some dt
  | .discardBusyLimit dt => some dt
  | .jamCleared dt => some dt
  | .sendingTailEnd dt => some dt
  | .baseCycleBoundary dt => some dt
  | .freshnessExpiry dt _ => some dt
  | .probeTimerExpiry dt _ => some dt
  | .sessionTimerExpiry dt => some dt
  | .noticeResendExpiry dt => some dt
  | .hardResetBegin _ => none

/-- A command that carries an EPOCH_SET: the row itself, and a frame given as bytes with the kind byte of MANAGE at offset 0
and the code of EPOCH_SET at offset 4 (R130, R131, R137). -/
def Instr.carriesEpochSet (i : Instr) : Bool :=
  match i with
  | .epochSet _ _ _ => true
  | .aFrameReceived _ f => byteAt f.bytes 0 == 0x04#8 && byteAt f.bytes 4 == 0x61#8
  | _ => false

/-- The boundary, in which alone a commit is applied (R122). -/
def Instr.isBoundary (i : Instr) : Bool :=
  match i with
  | .baseCycleBoundary _ => true
  | _ => false

/-- The command of a direct MANAGE frame with a known code. -/
def manageInstr (code : ManageCode) (t : Arrival) (f : ManageFrame) : Instr :=
  match code with
  | .editOpen => .editOpen t f
  | .editClose => .editClose t f
  | .entryWrite => .entryWrite t f
  | .entryRead => .entryRead t f
  | .commit => .commit t f
  | .nodeRead => .nodeRead t f
  | .nodeEnable => .nodeEnable t f
  | .nodeDisable => .nodeDisable t f
  | .nodeRevive => .nodeRevive t f
  | .cellRead => .cellRead t f
  | .dropIsolate => .dropIsolate t f
  | .dropResume => .dropResume t f
  | .noticeAck => .noticeAck t f
  | .noticeMask => .noticeMask t f
  | .clockRead => .clockRead t f
  | .epochSet => .epochSet t .direct f
  | .statusRead => .statusRead t f
  | .countersRead => .countersRead t f
  | .segmentReset => .segmentReset t .direct f

/-- The command of a direct READ or WRITE. -/
def requestInstr (op : Op) (t : Arrival) (f : RequestFrame) : Instr :=
  match op with
  | .read => .read t f
  | .write => .write t f

end Sys2Proof

namespace Sys2Proof.Machine

/-! ### Frames taken for this segment -/

/-- Out of reset, trunk A UP, and not in REPEATER mode: a frame for this segment reaches Intake (R88, R144, R153). -/
def Serving (s : State) : Prop :=
  s.held = none ∧ s.trunk.aUp = true ∧ s.repeater = false

/-- The state in which Intake decides a direct frame: the clock of its event, the frame counted (R145). -/
def State.atFrame (t : Arrival) (s : State) : State :=
  bump .aReceived (advance t.elapsed s)

/-- The instant at which the opening delimiter of a frame was received (R144). -/
def State.arrival (t : Arrival) (s : State) : Stamp :=
  s.time.clock + BitVec.ofNat 48 t.elapsed - BitVec.ofNat 48 t.airtime

/-- The state in which Intake decides a segment-15 frame: counted, and handed to the DOWN relay (R146; log entry 9). -/
def State.atBroadcast (t : Arrival) (p : Downstream) (s : State) : State :=
  relayDown (downstreamBytes 15 p) (s.arrival t) (s.atFrame t)

/-- A frame given as bytes is too short for the fixed fields of its kind (R132). -/
def isShort (bytes : List Byte) : Bool :=
  ((byteAt bytes 0 == kindRead || byteAt bytes 0 == kindWrite) && decide (bytes.length < 9)) ||
    (byteAt bytes 0 == kindAbort && decide (bytes.length < 7)) ||
    (byteAt bytes 0 == kindManage && decide (bytes.length < 8))

/-- A direct MANAGE frame with a known code passes R90 and steps 1 to 4 of R103. -/
def ManagePasses (code : ManageCode) (f : ManageFrame) (s : State) : Prop :=
  placesFull s = false ∧ manageFormFault f = none ∧ tagInUse s (tagOf f.tag) = false ∧ f.args.length = code.argLength

/-- A direct READ or WRITE passes the form check and the tag check (R91 steps 1 and 2). -/
def RequestFormed (op : Op) (f : RequestFrame) (s : State) : Prop :=
  requestFormFault op f = none ∧ tagInUse s (tagOf f.tag) = false

/-- The frame of a direct READ or WRITE is one that port A can take (R130). -/
def requestFits (op : Op) (f : RequestFrame) : Prop :=
  Sys2Proof.Downstream.fits (.request op f) = true

/-- The answer of Intake to a direct READ or WRITE that a check refuses, with no further effect (R89, R91). -/
def refusedWith (t : Arrival) (f : RequestFrame) (status : Status) (detail : Byte) (s : State) :
    Host.Outcome State Fault Refusal :=
  .next (decideA (answer f.tag f.node status detail [] (s.atFrame t)))

/-! ### The A-transmit arbiter (R150) -/

/-- The order of examination at a decision, by the last-granted marker (R150). -/
def UpClaimant.order (marker : UpClaimant) : List UpClaimant :=
  match marker with
  | .upRelay => [.upstream, .notice, .upRelay]
  | .upstream => [.notice, .upRelay, .upstream]
  | .notice => [.upRelay, .upstream, .notice]

/-- A claimant waits (R150, R161). -/
def UpClaimant.waits (s : State) (c : UpClaimant) : Bool :=
  match c with
  | .upRelay => !s.trunk.upQueue.isEmpty
  | .upstream => !s.trunk.upstream.isEmpty
  | .notice => offered s

/-- The head of the Upstream Queue is a slot entry of origin BROADCAST (R151). -/
def headIsBroadcast (s : State) : Bool :=
  match s.trunk.upstream with
  | { item := .slot i, frame := _ } :: _ => isBroadcastSlot s i
  | _ => false

/-! ### Nodes and claims -/

/-- A health record whose probe claim goes without a drop outcome at an instant: the timer is armed if the node is OFFLINE
(R56, R58). -/
def Health.claimDropped (now : Stamp) (probeUnits : Nat) (h : Health) : Health :=
  { h with
    claim := .none
    probeDue := if h.state = .offline then some (now + ms (probeUnits * 100)) else h.probeDue }

/-- A commit makes a node ABSENT: present in the bank before it, not present in the bank after (R64). -/
def nodeRemoved (old new : Tables) (n : NodeIx) : Bool :=
  (old.node[n]).present && !(new.node[n]).present

/-- A slot waits for a node that a commit makes ABSENT. -/
def slotRemoved (old new : Tables) (slot : Slot) : Bool :=
  (nodeIx? slot.node).any (nodeRemoved old new)

/-! ### Laws of the whole machine -/

/-- Each port state with the drop engine's transaction, deadline, transmitter and frame under transmission, and with IND_LINE
(R26, R29, R176). -/
def PortConsistent (s : State) : Prop :=
  (s.status.indLine = true ↔ s.engine.port = .jammed) ∧
    (s.engine.dropDE = true ↔ s.engine.port = .sending) ∧
    (s.engine.txStart.isSome = true ↔ s.engine.port = .sending) ∧
    (s.engine.deadline.isSome = true ↔ s.engine.port = .awaiting) ∧
    (s.engine.port = .idle ∨ s.engine.port = .jammed ∨ s.engine.port = .isolated → s.engine.txn = none) ∧
    (s.engine.port = .guard ∨ s.engine.port = .awaiting ∨ s.engine.port = .receiving → s.engine.txn.isSome = true)

/-- No claim waits while the port is out of service (R17, R41, R45, R72). -/
def NoClaimOutOfService (s : State) : Prop :=
  s.engine.port = .jammed ∨ s.engine.port = .isolated →
    s.pool.urgent = [] ∧ s.pool.normal = [] ∧ s.pool.bulk = [] ∧ s.calendar.dueList = [] ∧ s.monitor.probeList = []

/-- The capacities of the trunk's queues and of the Notice Queue (R90, R146, R148, R157). -/
def QueuesWithinCapacity (s : State) : Prop :=
  s.trunk.downQueue.length ≤ 8 ∧ s.trunk.upQueue.length ≤ 8 ∧ s.notices.ordinary.length ≤ 24 ∧ placesTaken s ≤ 16

/-- The number of IN_FLIGHT records. -/
def flights (q : NoticeQueue) : Nat :=
  (q.loss.toList ++ q.ordinary).countP (fun r => r.flight.isSome)

/-- At most one record is IN_FLIGHT, and the resend timer is armed or expired only for one (R157, R163). -/
def OneNoticeInFlight (s : State) : Prop :=
  flights s.notices ≤ 1 ∧
    (s.notices.resend.isSome = true ∨ s.notices.resendDue = true → s.notices.inFlight.isSome = true)

/-- The ranges of the SEGMENT entry (R110). -/
def SegmentEntry.inRange (e : SegmentEntry) : Prop :=
  (1 ≤ e.baseCycle ∧ e.baseCycle ≤ 1000) ∧ (2 ≤ e.guardGap ∧ e.guardGap ≤ 16) ∧
    (10 ≤ e.busyLimit ∧ e.busyLimit ≤ 1000) ∧ (1 ≤ e.bulkShare ∧ e.bulkShare ≤ 16) ∧
    (50 ≤ e.resendInterval ∧ e.resendInterval ≤ 5000) ∧ (1 ≤ e.sessionTimeout ∧ e.sessionTimeout ≤ 300)

/-- The SEGMENT entry of both banks is in its ranges, and the bulk-credit counter lies in 0 to 16 (R8, R110). -/
def SegmentInRange (s : State) : Prop :=
  s.config.active.segment.inRange ∧ s.config.shadow.segment.inRange ∧ s.pool.credit ≤ 16

/-- Slots that hold NORMAL or BULK requests. -/
def ordinarySlots (s : State) : Nat :=
  s.pool.slots.toList.countP (fun x => x.any (fun slot => slot.cls != .urgent))

/-- At most 28 occupied slots are NORMAL or BULK (R2). -/
def UrgentSlotsReserved (s : State) : Prop :=
  ordinarySlots s ≤ 28

/-- The queue of a class (R5). -/
def Pool.queueOf (p : Pool) (cls : Class) : List SlotIx :=
  match cls with
  | .urgent => p.urgent
  | .normal => p.normal
  | .bulk => p.bulk

/-- The slot whose reply an Upstream Queue entry is, if it is a slot's. -/
def UpEntry.slot? (e : UpEntry) : Option SlotIx :=
  match e.item with
  | .slot i => some i
  | .immediate _ => none

/-- The slots of the slot part of the Upstream Queue, in order (R149). -/
def slotPart (s : State) : List SlotIx :=
  s.trunk.upstream.filterMap UpEntry.slot?

/-- A slot is occupied by a record that satisfies `p`. -/
def slotHolds (s : State) (i : SlotIx) (p : Slot → Prop) : Prop :=
  ∃ slot, s.pool.slots[i] = some slot ∧ p slot

/-- A slot is in its class queue exactly while it is QUEUED, once, and a QUEUED slot has not been attempted or sent; only a
REPLYING slot has an outcome (R1, R2, R5). -/
def QueuesHoldQueued (s : State) : Prop :=
  (∀ (cls : Class) (i : SlotIx),
      i ∈ s.pool.queueOf cls ↔ slotHolds s i (fun slot => slot.state = .queued ∧ slot.cls = cls)) ∧
    (∀ cls : Class, (s.pool.queueOf cls).Nodup) ∧
    (∀ i : SlotIx, ∀ slot, s.pool.slots[i] = some slot →
      (slot.state = .queued → slot.attempts = 0 ∧ slot.sentOnce = false) ∧
        (slot.outcome.isSome = true ↔ slot.state = .replying))

/-- The slot part of the Upstream Queue holds one entry for each REPLYING slot and no other (R20, R149). -/
def SlotPartHoldsReplying (s : State) : Prop :=
  (slotPart s).Nodup ∧ ∀ i : SlotIx, i ∈ slotPart s ↔ slotHolds s i (fun slot => slot.state = .replying)

/-- The ACTIVE or ABORT_PENDING slot is the drop engine's transaction, so there is at most one, and a port in IDLE, JAMMED
or ISOLATED has none (R2, R26). -/
def EngineHoldsActive (s : State) : Prop :=
  (∀ i : SlotIx,
      slotHolds s i (fun slot => slot.state = .active ∨ slot.state = .abortPending) ↔
        s.engine.txn.map Txn.claimant = some (.host i)) ∧
    (s.engine.port = .idle ∨ s.engine.port = .jammed ∨ s.engine.port = .isolated → s.engine.txn = none)

/-- No tag has two holders among the occupied slots, the pending COMMIT and the pending DROP_ISOLATE (R4). -/
def TagsHaveOneHolder (s : State) : Prop :=
  (∀ i j : SlotIx, ∀ a b, s.pool.slots[i] = some a → s.pool.slots[j] = some b → a.tag = b.tag → i = j) ∧
    (∀ i : SlotIx, ∀ a, s.pool.slots[i] = some a →
      s.config.session.heldTag ≠ some a.tag ∧ s.engine.pendingIsolate ≠ some a.tag) ∧
    (∀ tag, s.config.session.heldTag = some tag → s.engine.pendingIsolate ≠ some tag)

/-- The request pool agrees with its queues, the Upstream Queue, the drop engine and the tag map (R1, R2, R4, R5, R20, R26,
R149). -/
def PoolConsistent (s : State) : Prop :=
  QueuesHoldQueued s ∧ SlotPartHoldsReplying s ∧ EngineHoldsActive s ∧ TagsHaveOneHolder s

/-- A node is ABSENT exactly while its ACTIVE entry is not present, only an OFFLINE node has an offline-since instant, and
IND_NODE shows while some node is OFFLINE (R49, R50, R55, R176). -/
def HealthFollowsTables (s : State) : Prop :=
  (∀ n : NodeIx, (s.monitor.health[n]).state = .absent ↔ (s.config.active.node[n]).present = false) ∧
    (∀ n : NodeIx, (s.monitor.health[n]).offlineSince.isSome = true ↔ (s.monitor.health[n]).state = .offline) ∧
    (s.status.indNode = true ↔ ∃ n : NodeIx, (s.monitor.health[n]).state = .offline)

/-- The probe list holds each LISTED claim once and no other, an ACTIVE claim is the drop engine's transaction, and an
OFFLINE node, and it alone, has its timer armed or a claim waiting, never both (R50, R56, R57). -/
def ClaimsAreHeld (s : State) : Prop :=
  s.monitor.probeList.Nodup ∧ (∀ n : NodeIx, n ∈ s.monitor.probeList ↔ (s.monitor.health[n]).claim = .listed) ∧
    (∀ n : NodeIx, (s.monitor.health[n]).claim = .active → s.engine.txn.map Txn.claimant = some (.probe n)) ∧
    (∀ n : NodeIx, (s.monitor.health[n]).probeDue.isSome = true →
      (s.monitor.health[n]).claim = .none ∧ s.engine.txn.map Txn.claimant ≠ some (.probe n)) ∧
    (∀ n : NodeIx, (s.monitor.health[n]).claim = .listed →
      s.engine.txn.map Txn.claimant ≠ some (.probe n)) ∧
    (∀ n : NodeIx, (s.monitor.health[n]).claim = .listed ∨ (s.monitor.health[n]).probeDue.isSome = true →
      (s.monitor.health[n]).state = .offline) ∧
    (∀ n : NodeIx, (s.monitor.health[n]).state = .offline →
      (s.monitor.health[n]).claim ≠ .none ∨ (s.monitor.health[n]).probeDue.isSome = true)

/-- The due list holds each entry at most once, and only used entries whose node is in service (R71, R72). -/
def DueListServes (s : State) : Prop :=
  s.calendar.dueList.Nodup ∧
    ∀ i : CellIx, i ∈ s.calendar.dueList →
      (s.config.active.poll[i]).used = true ∧ (healthOf s (s.config.active.poll[i]).node).inService = true

/-- The Node Monitor agrees with the tables, its indicator, the probe list and the drop engine, the due list holds only what
may be polled, and a port in IDLE, JAMMED or ISOLATED has no transaction (R26, R49, R50, R55 to R57, R72, R176). -/
def MonitorConsistent (s : State) : Prop :=
  HealthFollowsTables s ∧ ClaimsAreHeld s ∧ DueListServes s ∧
    (s.engine.port = .idle ∨ s.engine.port = .jammed ∨ s.engine.port = .isolated → s.engine.txn = none)

end Sys2Proof.Machine
end

