-- ==== Sys2Proof/Certificates/Slice0/Obligations.lean ====
section
/-! DEFINITION. What the provers are asked to prove: the statements of OBLIGATIONS.json, block by block in the order of the
spec's chapters, then the laws that every step keeps. -/

open Sys2Proof Sys2Proof.Machine

/-! ### The machine: the queue, the clock, and what only one command changes -/

/-- A step takes the command at the front of the queue and runs it on the state with the queue's rest. -/
def Obligations.StepRunsFrontCommand : Prop :=
  ∀ (c : Instr) (rest : List Instr) (s : State), s.pending = c :: rest → step s = exec c { s with pending := rest }

/-- Every command completes, whatever the state, and leaves the commands that wait as they are. The model's choices of log
entries 1 and 7: with no command waiting a step is one µs of the segment clock, and a controller held in reset takes
nothing but its release. -/
def Obligations.EveryCommandCompletesAndKeepsQueue : Prop :=
  (∀ (i : Instr) (s : State), ∃ u, exec i s = .next u ∧ u.pending = s.pending) ∧
  ((∀ s : State, s.pending = [] → s.held = none →
       step s = .next { s with time := { s.time with clock := s.time.clock + 1#48 } }) ∧
     (∀ s : State, s.pending = [] → s.held.isSome = true → step s = .next s) ∧
     (∀ (i : Instr) (s : State), i.elapsed.isSome = true → s.held.isSome = true → exec i s = .next s))

/-- The segment clock is written by no request and no soft reset: every command but a hard reset moves it by the µs it lets
pass, and by nothing else (log entry 1). The epoch offset is written only by EPOCH_SET, given by its fields or as bytes
of kind MANAGE with its code, and by a hard reset (R169, R170). -/
def Obligations.TimeBaseIsWrittenOnlyByItsOwners : Prop :=
  (∀ (i : Instr) (us : Nat) (s : State), i.elapsed = some us → s.held = none →
     ∃ u, exec i s = .next u ∧ u.time.clock = s.time.clock + BitVec.ofNat 48 us) ∧
  (∀ (i : Instr) (us : Nat) (s : State), i.elapsed = some us → i.carriesEpochSet = false →
     ∃ u, exec i s = .next u ∧ u.time.epoch = s.time.epoch)

/-- The latched straps do not change until the next release of hard reset, and the ACTIVE bank and the generation change at a
base-cycle boundary and at a hard reset alone (R24, R109, R123, R153, R177). That the straps last latched stay at the
beginning of a hard reset too is the model's choice of log entry 7. -/
def Obligations.StrapsAndActiveTablesAreHeld : Prop :=
  (∀ (i : Instr) (s : State), (∀ straps, i ≠ .hardReset straps) →
     ∃ u, exec i s = .next u ∧ u.segment = s.segment ∧ u.rate = s.rate) ∧
  (∀ (i : Instr) (us : Nat) (s : State), i.elapsed = some us → i.isBoundary = false →
     ∃ u, exec i s = .next u ∧ u.config.active = s.config.active ∧ u.config.generation = s.config.generation)

/-- The release of reset latches the straps and leaves every block at its hard-reset value, with RESET_DONE raised except in
REPEATER mode; at the instant a hard reset begins everything in progress is lost, every queue, record and timer, and
DROP_DE is released, with cause POWER for power-up and PIN for RESET_N unless a reset is under way already (R22, R47, R65,
R86, R126, R140, R155, R167, R176, R177). The model's choices: a release with no reset under way has cause PIN, and while
reset is held the straps last latched stay and each block stands at its reset value (log entry 7), and the guard entry
instant is 0 (log entry 6). -/
def Obligations.HardResetLosesEverythingAndSetsEveryBlock : Prop :=
  (∀ (straps : Straps) (s : State), ∃ u, exec (.hardReset straps) s = .next u ∧
     u.segment = straps.segment ∧ u.rate = straps.rate ∧ u.held = none ∧ u.pending = s.pending ∧
     u.time = { clock := 0#48, epoch := 0#48 } ∧
     u.status =
       { counters := Vector.replicate 24 0#32, snapshot := Vector.replicate 24 0#32, snapshotAt := 0#48
         resetCause := s.held.getD .pin, indLine := false, indNode := false } ∧
     u.pool = { slots := Vector.replicate 32 none, urgent := [], normal := [], bulk := [], credit := 0 } ∧
     u.engine =
       { port := if straps.segment = 15 then .isolated else .idle, txn := none, lastActivity := 0#48, guardEntry := 0#48
         guardGap := 3, busyLimit := 100, deadline := none, endOfRequest := none, firstChar := none, rxBuffer := []
         discard := none, discardStart := none, pendingIsolate := none, jamStart := none, txFrame := [], txStart := none
         dropDE := false } ∧
     u.monitor = { health := Vector.replicate 30 (Health.cleared .absent), probeList := [] } ∧
     u.calendar =
       { counter := 0#32, nextBoundary := 10000#48, baseCycle := 10, dueList := []
         cells := Vector.replicate 64 Cell.cleared } ∧
     u.config =
       { active := Tables.cleared, shadow := Tables.cleared, session := .closed, lastId := 0#8
         generation := 0#32 } ∧
     u.trunk =
       { aUp := false, bUp := false, downQueue := [], upQueue := [], upstream := [], marker := .notice, aTx := none
         bTx := none } ∧
     u.notices =
       { ordinary :=
           if straps.segment = 15 then []
           else
             [{ kind := .resetDone, node := none, detail := (s.held.getD .pin).detail, first := 0#48, last := 0#48
                repeats := 1, flight := none }]
         loss := none, heldLoss := none, mask := 0#16, nextSequence := 0#8, resend := none, resendDue := false }) ∧
  (∀ (source : ResetSource) (s : State), ∃ u, exec (.hardResetBegin source) s = .next u ∧
     u.held =
       some
         (match source, s.held with
           | .powerUp, _ => .power
           | .resetPin, none => .pin
           | .resetPin, some cause => cause) ∧
     u.segment = s.segment ∧ u.rate = s.rate ∧ u.pending = s.pending ∧
     u.pool = { slots := Vector.replicate 32 none, urgent := [], normal := [], bulk := [], credit := 0 } ∧
     (u.engine.dropDE = false ∧ u.engine.txn = none ∧ u.engine.txFrame = [] ∧ u.engine.txStart = none ∧
       u.engine.rxBuffer = [] ∧ u.engine.deadline = none ∧ u.engine.endOfRequest = none ∧ u.engine.firstChar = none ∧
       u.engine.discard = none ∧ u.engine.discardStart = none ∧ u.engine.pendingIsolate = none ∧
       u.engine.jamStart = none) ∧
     u.monitor = { health := Vector.replicate 30 (Health.cleared .absent), probeList := [] } ∧
     (u.calendar.dueList = [] ∧ u.calendar.cells = Vector.replicate 64 Cell.cleared) ∧
     u.config =
       { active := Tables.cleared, shadow := Tables.cleared, session := .closed, lastId := 0#8
         generation := 0#32 } ∧
     (u.trunk.aTx = none ∧ u.trunk.bTx = none ∧ u.trunk.downQueue = [] ∧ u.trunk.upQueue = [] ∧
       u.trunk.upstream = []) ∧
     u.notices =
       { ordinary := [], loss := none, heldLoss := none, mask := 0#16, nextSequence := 0#8, resend := none
         resendDue := false })

/-! ### The trunk ports (chapter 8) -/

/-- The effects of a change of link state, in its own event (R143, R146, R152, R164). A change to the state that a port
already has changes nothing but the clock: the model's choice of log entry 2. -/
def Obligations.LinkChangesTakeEffect : Prop :=
  (∀ (us : Nat) (s : State), s.held = none → s.trunk.aUp = false →
      exec (.trunkAUp us) s =
        .next
          (decideA
            { advance us s with
              trunk := { s.trunk with aUp := true }
              notices := { s.notices with resendDue := s.notices.inFlight.isSome } })) ∧
    (∀ (us : Nat) (s : State), s.held = none → s.trunk.aUp = true →
      exec (.trunkADown us) s =
        .next
          { advance us s with
            trunk := { s.trunk with aUp := false, aTx := none }
            notices := { s.notices with resend := none, resendDue := false } }) ∧
    (∀ (us : Nat) (s : State), s.held = none → s.trunk.bUp = false →
      exec (.trunkBUp us) s = .next (startB { advance us s with trunk := { s.trunk with bUp := true } })) ∧
    (∀ (us : Nat) (s : State), s.held = none → s.trunk.bUp = true →
      exec (.trunkBDown us) s =
        .next
          (addCount .downRelayLost (s.trunk.downQueue.length + if s.trunk.bTx.isSome then 1 else 0)
            { advance us s with trunk := { s.trunk with bUp := false, downQueue := [], bTx := none } })) ∧
    (∀ (us : Nat) (s : State), s.held = none →
      (s.trunk.aUp = true → exec (.trunkAUp us) s = .next (advance us s)) ∧
        (s.trunk.aUp = false → exec (.trunkADown us) s = .next (advance us s)) ∧
        (s.trunk.bUp = true → exec (.trunkBUp us) s = .next (advance us s)) ∧
        (s.trunk.bUp = false → exec (.trunkBDown us) s = .next (advance us s)))

/-- A transmission on B that ends is counted, and the transmitter takes the next head of the DOWN relay queue; a relayed
EPOCH_SET of 14 bytes leaves with its carried value advanced by its residence time modulo 2^48, its other bytes unchanged
and its check holding, and every other frame leaves byte for byte as it arrived (R129, R146, R147). An end without a
transmission changes nothing but the clock: the model's choice of log entry 2. -/
def Obligations.BTransmitEndCountsAndTakesNextFrame : Prop :=
  ((∀ (us : Nat) (s : State), s.held = none → s.trunk.bUp = true → s.trunk.bTx.isSome = true → s.trunk.downQueue = [] →
       exec (.bTransmitEnd us) s =
         .next (addCount .downRelayed 1 { advance us s with trunk := { s.trunk with bTx := none } })) ∧
     (∀ (us : Nat) (next : DownFrame) (rest : List DownFrame) (s : State), s.held = none → s.trunk.bUp = true →
       s.trunk.bTx.isSome = true → s.trunk.downQueue = next :: rest →
       exec (.bTransmitEnd us) s =
         .next
           (addCount .downRelayed 1
             { advance us s with
               trunk :=
                 { s.trunk with
                   downQueue := rest
                   bTx := some (relayedBytes (s.time.clock + BitVec.ofNat 48 us) next) } })) ∧
     (∀ (us : Nat) (s : State), s.held = none → s.trunk.bTx = none →
       exec (.bTransmitEnd us) s = .next (advance us s))) ∧
  (∀ (now : Stamp) (f : DownFrame),
     (isRelayedEpochSet f.bytes = true →
       (relayedBytes now f).length = 14 ∧ (relayedBytes now f).take 6 = f.bytes.take 6 ∧
         word48 (((relayedBytes now f).drop 6).take 6) = word48 ((f.bytes.drop 6).take 6) + (now - f.arrival) ∧
         checkHolds (relayedBytes now f) = true) ∧
       (isRelayedEpochSet f.bytes = false → relayedBytes now f = f.bytes))

/-- What the end of a transmission on A completes, by the claimant that was granted, and the decision that follows (R20,
R151, R155, R162, R163). An end without a transmission changes nothing but the clock: the model's choice of log entry
2. -/
def Obligations.ATransmitEndCompletesGrant : Prop :=
  (∀ (us : Nat) (bytes : List Byte) (live : Bool) (s : State), s.held = none →
      s.trunk.aTx = some { claimant := .upRelay, bytes := bytes, live := live } →
      exec (.aTransmitEnd us) s =
        .next
          (decideA
            (addCount .upRelayed 1
              { advance us s with trunk := { s.trunk with aTx := none, upQueue := s.trunk.upQueue.tail } }))) ∧
    (∀ (us : Nat) (bytes : List Byte) (i : SlotIx) (frame : Option (List Byte)) (rest : List UpEntry) (s : State),
      s.held = none → s.trunk.aTx = some { claimant := .upstream, bytes := bytes, live := true } →
      s.trunk.upstream = { item := .slot i, frame := frame } :: rest →
      exec (.aTransmitEnd us) s =
        .next
          (decideA
            { advance us s with
              trunk := { s.trunk with aTx := none, upstream := rest }
              pool := { s.pool with slots := s.pool.slots.set i.val none i.isLt } })) ∧
    (∀ (us : Nat) (bytes : List Byte) (r : Reply) (frame : Option (List Byte)) (rest : List UpEntry) (s : State),
      s.held = none → s.trunk.aTx = some { claimant := .upstream, bytes := bytes, live := true } →
      s.trunk.upstream = { item := .immediate r, frame := frame } :: rest →
      exec (.aTransmitEnd us) s =
        .next (decideA { advance us s with trunk := { s.trunk with aTx := none, upstream := rest } })) ∧
    (∀ (us : Nat) (bytes : List Byte) (x : Flight) (s : State), s.held = none →
      s.trunk.aTx = some { claimant := .notice, bytes := bytes, live := true } →
      s.notices.inFlight.bind NoticeRecord.flight = some x →
      exec (.aTransmitEnd us) s =
        .next
          (decideA
            (addCount (if x.sentBefore then .noticesResent else .noticesSent) 1
              { advance us s with
                trunk := { s.trunk with aTx := none }
                notices :=
                  { s.notices.markSent with
                    resend :=
                      some
                        (s.time.clock + BitVec.ofNat 48 us +
                          BitVec.ofNat 48 (s.config.active.segment.resendInterval * 1000)) } }))) ∧
    (∀ (us : Nat) (bytes : List Byte) (s : State), s.held = none →
      s.trunk.aTx = some { claimant := .notice, bytes := bytes, live := true } → s.notices.inFlight = none →
      exec (.aTransmitEnd us) s = .next (decideA { advance us s with trunk := { s.trunk with aTx := none } })) ∧
    (∀ (us : Nat) (tx : ATransmission) (s : State), s.held = none → s.trunk.aTx = some tx → tx.live = false →
      tx.claimant ≠ .upRelay →
      exec (.aTransmitEnd us) s = .next (decideA { advance us s with trunk := { s.trunk with aTx := none } })) ∧
    (∀ (us : Nat) (s : State), s.held = none → s.trunk.aTx = none →
      exec (.aTransmitEnd us) s = .next (advance us s))

/-- The A-transmit arbiter decides while A is UP and sends no frame: BROADCAST heads of the Upstream Queue leave first and
free their slots, then the first claimant that waits, in the cyclic order after the last-granted marker, is granted and
named by the marker (R150, R151). A grant of the Notice Queue resends the IN_FLIGHT record's first bytes, or sends the
record that ranks first, with the next sequence and the frame of the notice formats (R135, R136, R157, R161, R162). -/
def Obligations.ATransmitDecisionIsCyclic : Prop :=
  (∀ (c : UpClaimant) (s : State), s.trunk.aUp = true → s.trunk.aTx = none → headIsBroadcast s = false →
      s.trunk.marker.order.find? (fun d => d.waits s) = some c →
      (decideA s).trunk.marker = c ∧
        (decideA s).trunk.aTx =
          some
            { claimant := c
              bytes :=
                match c with
                | .upRelay => s.trunk.upQueue.headD []
                | .upstream => ((s.trunk.upstream.head?).map (fun e => e.frame.getD (buildFrame s e.item))).getD []
                | .notice => flightFrame (decideA s).notices
              live := true } ∧
        (decideA s).pool = s.pool ∧ (decideA s).trunk.upQueue = s.trunk.upQueue ∧
        (decideA s).trunk.upstream.map UpEntry.item = s.trunk.upstream.map UpEntry.item ∧
        (c ≠ .notice → (decideA s).notices = s.notices)) ∧
    (∀ s : State, s.trunk.aUp = true → s.trunk.aTx = none → headIsBroadcast s = false →
      s.trunk.marker.order.find? (fun d => d.waits s) = some .notice →
      (∀ (r : NoticeRecord) (x : Flight), s.notices.inFlight = some r → r.flight = some x →
          (decideA s).notices = { s.notices with resendDue := false } ∧ flightFrame (decideA s).notices = x.frame) ∧
        (∀ r : NoticeRecord, s.notices.inFlight = none → s.notices.loss = some r →
          (∀ y ∈ s.notices.ordinary, y.kind ≠ .resetDone) →
          (decideA s).notices =
              { s.notices with
                nextSequence := s.notices.nextSequence + 1#8
                loss :=
                  some
                    { r with
                      flight :=
                        some
                          { sequence := s.notices.nextSequence, frame := noticeFrame s r s.notices.nextSequence
                            sentBefore := false } } } ∧
            flightFrame (decideA s).notices = noticeFrame s r s.notices.nextSequence) ∧
        (∀ (before after : List NoticeRecord) (r : NoticeRecord), s.notices.inFlight = none →
          s.notices.ordinary = before ++ r :: after → s.notices.loss = none ∨ r.kind = .resetDone →
          (∀ y ∈ before, r.kind.code < y.kind.code) → (∀ y ∈ after, r.kind.code ≤ y.kind.code) →
          (decideA s).notices =
              { s.notices with
                nextSequence := s.notices.nextSequence + 1#8
                ordinary :=
                  before ++
                    { r with
                      flight :=
                        some
                          { sequence := s.notices.nextSequence, frame := noticeFrame s r s.notices.nextSequence
                            sentBefore := false } } :: after } ∧
            flightFrame (decideA s).notices = noticeFrame s r s.notices.nextSequence)) ∧
    (∀ (r : NoticeRecord) (sequence : Byte) (s : State),
      noticeFrame s r sequence =
        withCheck
          ([0x82#8, BitVec.ofNat 8 (s.segment.val * 16), 0#8, 0#8, sequence, BitVec.ofNat 8 r.kind.code,
              match r.node with
              | some a => BitVec.ofNat 8 a.val
              | none => 0#8] ++
            be16 r.detail ++ [BitVec.ofNat 8 r.repeats] ++ be48 (r.first + s.time.epoch) ++
            be48 (r.last + s.time.epoch))) ∧
    (∀ s : State, s.trunk.aUp = true → s.trunk.aTx = none → headIsBroadcast s = false →
      s.trunk.marker.order.all (fun d => !d.waits s) = true → decideA s = s) ∧
    (∀ (i : SlotIx) (frame : Option (List Byte)) (rest : List UpEntry) (s : State), s.trunk.aUp = true →
      s.trunk.aTx = none → s.trunk.upstream = { item := .slot i, frame := frame } :: rest →
      isBroadcastSlot s i = true →
      decideA s =
        decideA
          { s with
            trunk := { s.trunk with upstream := rest }
            pool := { s.pool with slots := s.pool.slots.set i.val none i.isLt } }) ∧
    (∀ s : State, s.trunk.aUp = false ∨ s.trunk.aTx.isSome = true → decideA s = s)

/-- A frame given as bytes on a trunk port: nothing is taken on a port that is DOWN, a corrupt or misdirected frame is counted
and goes nowhere, a downstream frame for another segment goes to the DOWN relay, an upstream frame goes to the UP relay
queue, and in REPEATER mode every downstream frame is relayed (R144 to R146, R148, R153). What the receive checks pass, and
which kinds are upstream (R130, R131). A frame too short for its kind is discarded and counted, and so is a segment-15
READ, ABORT or MANAGE of any code but EPOCH_SET and SEGMENT_RESET (R105, R132), the relay first (log entry 9). The relay
queues hold up to eight frames, and what is lost at a full queue or at a port B that is DOWN is counted and, at a full
queue, reported (R146, R148). -/
def Obligations.FramesOnTrunkPortsAreSorted : Prop :=
  ((∀ f : RawFrame,
      (isCorrupt f = false ↔
          f.symbolsValid = true ∧ 6 ≤ f.bytes.length ∧ f.bytes.length ≤ 96 ∧
            (∃ covered, f.bytes = covered ++ be16 (crc16 covered)) ∧
            byteAt f.bytes 0 ∈ [0x01#8, 0x02#8, 0x03#8, 0x04#8, 0x81#8, 0x82#8]) ∧
        (isUpstreamKind f = true ↔ byteAt f.bytes 0 = 0x81#8 ∨ byteAt f.bytes 0 = 0x82#8) ∧
        (segmentOf f.bytes).val = (byteAt f.bytes 1).toNat / 16 ∧
        (isShort f.bytes = true ↔
          (byteAt f.bytes 0 = 0x01#8 ∨ byteAt f.bytes 0 = 0x02#8) ∧ f.bytes.length < 9 ∨
            byteAt f.bytes 0 = 0x03#8 ∧ f.bytes.length < 7 ∨ byteAt f.bytes 0 = 0x04#8 ∧ f.bytes.length < 8)) ∧
     (∀ (t : Arrival) (f : RawFrame) (s : State), Serving s → isCorrupt f = false → segmentOf f.bytes = s.segment →
       isShort f.bytes = true →
       exec (.aFrameReceived t f) s = .next (decideA (addCount .intakeDiscarded 1 (s.atFrame t)))) ∧
     (∀ (t : Arrival) (f : RawFrame) (s : State), Serving s → isCorrupt f = false → segmentOf f.bytes = 15 →
       (isShort f.bytes = true ∨ byteAt f.bytes 0 = 0x01#8 ∨ byteAt f.bytes 0 = 0x03#8 ∨
         (byteAt f.bytes 0 = 0x04#8 ∧ byteAt f.bytes 4 ≠ 0x61#8 ∧ byteAt f.bytes 4 ≠ 0x72#8)) →
       exec (.aFrameReceived t f) s =
         .next
           (decideA (addCount .intakeDiscarded 1 (relayDown f.bytes (s.arrival t) (s.atFrame t)))))) ∧
  ((∀ (t : Arrival) (f : RawFrame) (s : State), s.held = none → s.trunk.aUp = false →
       exec (.aFrameReceived t f) s = .next (advance t.elapsed s)) ∧
     (∀ (t : Arrival) (f : RawFrame) (s : State), s.held = none → s.trunk.aUp = true → isCorrupt f = true →
       exec (.aFrameReceived t f) s = .next (addCount .aCorrupt 1 (advance t.elapsed s))) ∧
     (∀ (t : Arrival) (f : RawFrame) (s : State), s.held = none → s.trunk.aUp = true → isCorrupt f = false →
       isUpstreamKind f = true →
       exec (.aFrameReceived t f) s = .next (addCount .aMisdirected 1 (advance t.elapsed s))) ∧
     (∀ (t : Arrival) (f : RawFrame) (s : State), Serving s → isCorrupt f = false → isUpstreamKind f = false →
       segmentOf f.bytes ≠ s.segment → segmentOf f.bytes ≠ 15 →
       exec (.aFrameReceived t f) s = .next (decideA (relayDown f.bytes (s.arrival t) (s.atFrame t)))) ∧
     (∀ (t : Arrival) (f : RawFrame) (s : State), s.held = none → s.trunk.aUp = true → s.repeater = true →
       isCorrupt f = false → isUpstreamKind f = false →
       exec (.aFrameReceived t f) s = .next (relayDown f.bytes (s.arrival t) (s.atFrame t))) ∧
     (∀ (us : Nat) (f : RawFrame) (s : State), s.held = none → s.trunk.bUp = false →
       exec (.bFrameReceived us f) s = .next (advance us s)) ∧
     (∀ (us : Nat) (f : RawFrame) (s : State), s.held = none → s.trunk.bUp = true → isCorrupt f = true →
       exec (.bFrameReceived us f) s = .next (addCount .bCorrupt 1 (advance us s))) ∧
     (∀ (us : Nat) (f : RawFrame) (s : State), s.held = none → s.trunk.bUp = true → isCorrupt f = false →
       isUpstreamKind f = false →
       exec (.bFrameReceived us f) s = .next (addCount .bMisdirected 1 (advance us s))) ∧
     (∀ (us : Nat) (f : RawFrame) (s : State), s.held = none → s.trunk.bUp = true → isCorrupt f = false →
       isUpstreamKind f = true →
       exec (.bFrameReceived us f) s = .next (decideA (relayUp f.bytes (addCount .bReceived 1 (advance us s)))))) ∧
  ((∀ (bytes : List Byte) (arrival : Stamp) (s : State), s.trunk.bUp = true → s.trunk.downQueue.length < 8 →
       relayDown bytes arrival s =
         startB
           { s with
             trunk :=
               { s.trunk with downQueue := s.trunk.downQueue ++ [{ bytes := bytes, arrival := arrival }] } }) ∧
     (∀ (bytes : List Byte) (arrival : Stamp) (s : State), s.trunk.bUp = true → 8 ≤ s.trunk.downQueue.length →
       relayDown bytes arrival s = raise .relayLoss none 2#16 (addCount .downRelayLost 1 s)) ∧
     (∀ (bytes : List Byte) (arrival : Stamp) (s : State), s.trunk.bUp = false →
       relayDown bytes arrival s = addCount .downRelayLost 1 s) ∧
     (∀ (bytes : List Byte) (s : State), s.trunk.upQueue.length < 8 →
       relayUp bytes s = { s with trunk := { s.trunk with upQueue := s.trunk.upQueue ++ [bytes] } }) ∧
     (∀ (bytes : List Byte) (s : State), 8 ≤ s.trunk.upQueue.length →
       relayUp bytes s = raise .relayLoss none 1#16 (addCount .upRelayLost 1 s)))

/-! ### Frames as bytes (chapter 7) -/

/-- The bytes of a direct READ, WRITE or ABORT, laid out and checked as the formats give them, are taken on port A as that
command with every field as it was (R129, R130, R131, R132). -/
def Obligations.RequestBytesAreTheirCommands : Prop :=
  (∀ (op : Op) (t : Arrival) (f : RequestFrame) (s : State),
      exec (.aFrameReceived t { symbolsValid := true, bytes := downstreamBytes s.segment (.request op f) }) s =
        exec (requestInstr op t f) s) ∧
    (∀ (t : Arrival) (f : AbortFrame) (s : State),
      exec (.aFrameReceived t { symbolsValid := true, bytes := downstreamBytes s.segment (.abort f) }) s =
        exec (.abort t f) s)

/-- The bytes of a direct MANAGE frame are taken on port A as the command of its code, for every code of R137 and for
every code the controller does not know (R103, R130, R131, R137). -/
def Obligations.ManageBytesAreTheirCommands : Prop :=
  (∀ (code : ManageCode) (t : Arrival) (f : ManageFrame) (s : State),
      exec (.aFrameReceived t { symbolsValid := true, bytes := downstreamBytes s.segment (.manage code.byte f) }) s =
        exec (manageInstr code t f) s) ∧
    (∀ (code : Byte) (t : Arrival) (f : ManageFrame) (s : State), ManageCode.ofByte? code = none →
      exec (.aFrameReceived t { symbolsValid := true, bytes := downstreamBytes s.segment (.manage code f) }) s =
        exec (.unknownCode t code f) s)

/-- The bytes of a segment-15 WRITE, EPOCH_SET or SEGMENT_RESET are taken on port A as the broadcast command of that name
(R105, R106, R107, R130, R146). -/
def Obligations.BroadcastBytesAreTheirCommands : Prop :=
  (∀ (t : Arrival) (f : RequestFrame) (s : State),
      exec (.aFrameReceived t { symbolsValid := true, bytes := downstreamBytes 15 (.request .write f) }) s =
        exec (.broadcastWrite t f) s) ∧
    (∀ (t : Arrival) (f : ManageFrame) (s : State),
      exec (.aFrameReceived t
          { symbolsValid := true, bytes := downstreamBytes 15 (.manage ManageCode.epochSet.byte f) }) s =
        exec (.epochSet t .broadcast f) s) ∧
    (∀ (t : Arrival) (f : ManageFrame) (s : State),
      exec (.aFrameReceived t
          { symbolsValid := true, bytes := downstreamBytes 15 (.manage ManageCode.segmentReset.byte f) }) s =
        exec (.segmentReset t .broadcast f) s)

/-! ### Replies, refusals and admission (chapters 1, 4, 5) -/

/-- An immediate reply joins the Upstream Queue behind every entry that waits, and one counter increases; its frame, once
built, carries the fields of the frame answered, source CONTROLLER, or MIRROR with the age, and the stamp as host time. The
frame of a slot's reply carries the record's tag and node, the outcome with its data, and source DROP with the attempts, or
CONTROLLER without one (R20, R89, R128, R133, R134). -/
def Obligations.ReplyJoinsUpstreamTailAndIsCounted : Prop :=
  (∀ (tag node : Byte) (status : Status) (detail : Byte) (body : List Piece) (s : State),
      (answer tag node status detail body s).trunk =
          { s.trunk with
            upstream :=
              s.trunk.upstream ++
                [{ item :=
                     .immediate
                       { tag := tag, node := node, status := status, detail := detail, source := .controller
                         stamp := s.time.clock, body := body }
                   frame := none }] } ∧
        (∀ c, (answer tag node status detail body s).counter c =
            if c = .immediateReplies then s.counter c + 1#32 else s.counter c) ∧
        answer tag node status detail body s =
          { s with
            trunk := (answer tag node status detail body s).trunk
            status := { s.status with counters := (answer tag node status detail body s).status.counters } }) ∧
    (∀ (r : Reply) (s : State), r.source = .controller →
      buildFrame s (.immediate r) =
        withCheck
          ([0x81#8, BitVec.ofNat 8 (s.segment.val * 16), r.tag, r.node, r.status.code, r.detail, 0x30#8] ++
            be48 (r.stamp + s.time.epoch) ++ r.body.flatMap (pieceBytes s))) ∧
    (∀ (r : Reply) (age : BitVec 16) (s : State), r.source = .mirror age →
      buildFrame s (.immediate r) =
        withCheck
          ([0x81#8, BitVec.ofNat 8 (s.segment.val * 16), r.tag, r.node, r.status.code, r.detail, 0x20#8] ++ be16 age ++
            be48 (r.stamp + s.time.epoch) ++ r.body.flatMap (pieceBytes s))) ∧
    (∀ (bytes : List Byte) (stamp : Stamp) (s : State),
      pieceBytes s (.raw bytes) = bytes ∧ pieceBytes s (.hostTime stamp) = be48 (stamp + s.time.epoch)) ∧
    (∀ (i : SlotIx) (slot : Slot) (o : SlotOutcome) (s : State), s.pool.slots[i] = some slot → slot.outcome = some o →
      buildFrame s (.slot i) =
        withCheck
          ([0x81#8, BitVec.ofNat 8 (s.segment.val * 16), BitVec.ofNat 8 slot.tag.val, BitVec.ofNat 8 slot.node.val,
              o.status.code, o.detail, if o.attempts = 0 then 0x30#8 else BitVec.ofNat 8 (16 + o.attempts)] ++
            be48 (o.stamp + s.time.epoch) ++ o.data.flatMap be16))

/-- With all 16 places of the immediate part taken, a direct frame that would be answered by an immediate reply is
discarded and counted, and has no other effect: every ABORT and MANAGE, a READ or WRITE that a check refuses, and a READ
that a cell would serve (R90). -/
def Obligations.FullImmediatePartDiscards : Prop :=
  (∀ (t : Arrival) (f : AbortFrame) (s : State), Serving s → placesFull s = true →
      Sys2Proof.Downstream.fits (.abort f) = true →
      exec (.abort t f) s = .next (decideA (addCount .intakeDiscarded 1 (s.atFrame t)))) ∧
    (∀ (code : ManageCode) (t : Arrival) (f : ManageFrame) (s : State), Serving s → placesFull s = true →
      Sys2Proof.Downstream.fits (.manage code.byte f) = true →
      exec (manageInstr code t f) s = .next (decideA (addCount .intakeDiscarded 1 (s.atFrame t)))) ∧
    (∀ (code : Byte) (t : Arrival) (f : ManageFrame) (s : State), Serving s → placesFull s = true →
      Sys2Proof.Downstream.fits (.manage code f) = true →
      exec (.unknownCode t code f) s = .next (decideA (addCount .intakeDiscarded 1 (s.atFrame t)))) ∧
    (∀ (op : Op) (d : BadRequest) (t : Arrival) (f : RequestFrame) (s : State), Serving s → placesFull s = true →
      requestFits op f → requestFormFault op f = some d →
      exec (requestInstr op t f) s = .next (decideA (addCount .intakeDiscarded 1 (s.atFrame t)))) ∧
    (∀ (op : Op) (t : Arrival) (f : RequestFrame) (s : State), Serving s → placesFull s = true →
      requestFormFault op f = none →
      tagInUse s (tagOf f.tag) = true ∨ (∃ x, accessCheck s.config.active op (requestRange f) = .error x) →
      exec (requestInstr op t f) s = .next (decideA (addCount .intakeDiscarded 1 (s.atFrame t)))) ∧
    (∀ (cls : Machine.Class) (t : Arrival) (f : RequestFrame) (s : State), Serving s → placesFull s = true →
      RequestFormed .read f s → accessCheck s.config.active .read (requestRange f) = .ok cls →
      (mirrorOffer .read f (s.atFrame t)).isSome = true ∨ mirrorOnly f = true →
      exec (.read t f) s = .next (decideA (addCount .intakeDiscarded 1 (s.atFrame t)))) ∧
    (∀ (op : Op) (cls : Machine.Class) (t : Arrival) (f : RequestFrame) (s : State), Serving s → placesFull s = true →
      RequestFormed op f s → accessCheck s.config.active op (requestRange f) = .ok cls →
      mirrorOffer op f (s.atFrame t) = none → (lineRefusal s (nodeOf f.node) cls).isSome = true →
      exec (requestInstr op t f) s = .next (decideA (addCount .intakeDiscarded 1 (s.atFrame t))))

/-- The checks on a direct READ or WRITE, in order: each that fails answers the frame with its status and detail, and a
refusal by the ACCESS table also raises ACCESS_REFUSED with the deciding index (R91, R93, R97, R99, R100, R101). The form
check is the first case that applies of those in its table (R92, R134), and a tag is in use while an occupied slot, the
pending COMMIT or the pending DROP_ISOLATE holds it (R4). -/
def Obligations.RequestsAreRefusedInOrder : Prop :=
  (∀ (op : Op) (f : RequestFrame),
      (requestFormFault op f).map BadRequest.code =
        if f.tail.length ≠
            (if op = .write then 2 * (f.spaceCount.toNat % 64 + 1) else if f.flags.getLsbD 0 then 2 else 0) then
          some 1#8
        else if 64 ≤ f.tag.toNat then some 2#8
        else if f.flags.getLsbD 2 = true ∨ f.flags.getLsbD 3 = true then some 3#8
        else if f.node = 0#8 ∨ 32 ≤ f.node.toNat then some 4#8
        else if f.node = 31#8 ∧ op = .read then some 5#8
        else if 32 < f.spaceCount.toNat % 64 + 1 then some 6#8
        else if 65536 < f.address.toNat + (f.spaceCount.toNat % 64 + 1) then some 7#8
        else if f.flags.getLsbD 0 = true ∧ (op = .write ∨ byteAt f.tail 0 = 0#8 ∧ byteAt f.tail 1 = 0#8) then
          some 8#8
        else if f.flags.getLsbD 1 = true ∧ f.flags.getLsbD 0 = false then some 9#8
        else none) ∧
    (∀ (tag : Tag) (s : State),
      tagInUse s tag = true ↔
        (∃ i : SlotIx, ∃ slot, s.pool.slots[i] = some slot ∧ slot.tag = tag) ∨
          (∃ id, s.config.session = .commitPending id tag) ∨ s.engine.pendingIsolate = some tag) ∧
    (∀ (op : Op) (d : BadRequest) (t : Arrival) (f : RequestFrame) (s : State), Serving s → placesFull s = false →
      requestFits op f → requestFormFault op f = some d →
      exec (requestInstr op t f) s = refusedWith t f .badRequest d.code s) ∧
    (∀ (op : Op) (t : Arrival) (f : RequestFrame) (s : State), Serving s → placesFull s = false →
      requestFormFault op f = none → tagInUse s (tagOf f.tag) = true →
      exec (requestInstr op t f) s = refusedWith t f .duplicateTag 0#8 s) ∧
    (∀ (op : Op) (d : AccessRefusal) (index : Nat) (t : Arrival) (f : RequestFrame) (s : State), Serving s →
      placesFull s = false → RequestFormed op f s →
      accessCheck s.config.active op (requestRange f) = .error (d, index) →
      exec (requestInstr op t f) s =
        .next
          (decideA
            (raise .accessRefused (some (nodeOf f.node)) (BitVec.ofNat 16 index)
              (answer f.tag f.node .noAccess d.code [] (s.atFrame t))))) ∧
    (∀ (cls : Machine.Class) (t : Arrival) (f : RequestFrame) (s : State), Serving s → placesFull s = false →
      RequestFormed .read f s → accessCheck s.config.active .read (requestRange f) = .ok cls →
      mirrorOnly f = true → mirrorOffer .read f (s.atFrame t) = none →
      exec (.read t f) s = refusedWith t f .notMirrored 0#8 s) ∧
    (∀ (op : Op) (cls : Machine.Class) (t : Arrival) (f : RequestFrame) (s : State), Serving s → placesFull s = false →
      RequestFormed op f s → accessCheck s.config.active op (requestRange f) = .ok cls →
      (op = .read → mirrorOnly f = false) → mirrorOffer op f (s.atFrame t) = none →
      (s.engine.port = .isolated → exec (requestInstr op t f) s = refusedWith t f .isolated 0#8 s) ∧
        (s.engine.port = .jammed → exec (requestInstr op t f) s = refusedWith t f .lineFault 0#8 s) ∧
        (s.engine.port ≠ .isolated → s.engine.port ≠ .jammed →
          (∀ n, nodeIx? (nodeOf f.node) = some n →
            ((s.monitor.health[n]).state = .absent →
                exec (requestInstr op t f) s = refusedWith t f .nodeAbsent 0#8 s) ∧
              ((s.monitor.health[n]).state = .disabled →
                exec (requestInstr op t f) s = refusedWith t f .nodeDisabled 0#8 s) ∧
              ((s.monitor.health[n]).state = .offline →
                exec (requestInstr op t f) s = refusedWith t f .nodeOffline 0#8 s)) ∧
            ((nodeOf f.node).val = 31 ∨ (healthOf s (nodeOf f.node)).inService = true → hasRoom s cls = false →
              exec (requestInstr op t f) s = refusedWith t f .poolFull 0#8 s)))

/-- A direct READ or WRITE that passes every check and that no cell serves is admitted with its record as R1 fills it, and
the drop arbiter decides in the same event (R1, R91, R101). The pool admits an URGENT request while a slot is free and a
NORMAL or BULK one while more than four are; an admitted request takes a free slot and the tail of its class queue, is
counted, and changes nothing else (R3). -/
def Obligations.RequestsThatPassAreAdmittedAtQueueTail : Prop :=
  (∀ (op : Op) (cls : Machine.Class) (t : Arrival) (f : RequestFrame) (s : State), Serving s → RequestFormed op f s →
    accessCheck s.config.active op (requestRange f) = .ok cls → (op = .read → mirrorOnly f = false) →
    mirrorOffer op f (s.atFrame t) = none → s.engine.port ≠ .isolated → s.engine.port ≠ .jammed →
    ((nodeOf f.node).val = 31 ∨ (healthOf s (nodeOf f.node)).inService = true) → hasRoom s cls = true →
    exec (requestInstr op t f) s =
      .next
        (decideA
          (decideDrop
            (admitSlot
              { tag := tagOf f.tag, node := nodeOf f.node, op := op, space := spaceOf f, address := f.address
                count := countOf f, payload := if op = .read then [] else wordsOf f.tail, cls := cls
                origin := .direct, attempts := 0, sentOnce := false, state := .queued, outcome := none }
              (s.atFrame t))))) ∧
  (∀ (cls : Machine.Class) (s : State),
      hasRoom s cls = true ↔ (cls = .urgent ∧ 1 ≤ freeSlots s) ∨ (cls ≠ .urgent ∧ 4 < freeSlots s)) ∧
    (∀ (r : Slot) (s : State), hasRoom s r.cls = true →
      ∃ i : SlotIx, s.pool.slots[i] = none ∧
        (admitSlot r s).pool =
          { s.pool with
            slots := s.pool.slots.set i.val (some r) i.isLt
            urgent := if r.cls = .urgent then s.pool.urgent ++ [i] else s.pool.urgent
            normal := if r.cls = .normal then s.pool.normal ++ [i] else s.pool.normal
            bulk := if r.cls = .bulk then s.pool.bulk ++ [i] else s.pool.bulk } ∧
        admitSlot r s =
          { s with
            pool := (admitSlot r s).pool
            status := { s.status with counters := (admitSlot r s).status.counters } } ∧
        (∀ c, (admitSlot r s).counter c = if c = .requestsAdmitted then s.counter c + 1#32 else s.counter c))

/-- The access search: the deciding entry is the first that matches, whatever a later one would decide; and the result of the
access check by the deciding entry or its absence (R95, R96). -/
def Obligations.AccessSearchAndCheckFollowFirstMatch : Prop :=
  ((∀ (e : AccessEntry) (w : PollKey), 1 ≤ w.count →
       (accessMatches e w = true ↔
         e.used = true ∧ (e.nodeFirst.val ≤ w.node.val ∧ w.node.val ≤ e.nodeLast.val) ∧
           e.spaces.getLsbD w.space.val = true ∧
           (e.addressFirst.toNat ≤ w.address.toNat ∧ w.address.toNat + w.count - 1 ≤ e.addressLast.toNat))) ∧
     (∀ (b : Tables) (w : PollKey) (i : Fin 48),
       decidingEntry b w = some i ↔
         accessMatches b.access[i] w = true ∧ ∀ j : Fin 48, j < i → accessMatches b.access[j] w = false) ∧
     (∀ (b : Tables) (w : PollKey), decidingEntry b w = none ↔ ∀ i : Fin 48, accessMatches b.access[i] w = false)) ∧
  ((∀ (b : Tables) (op : Op) (w : PollKey), decidingEntry b w = none →
       accessCheck b op w = .error (.noMatch, 255)) ∧
     (∀ (b : Tables) (op : Op) (w : PollKey) (i : Fin 48), decidingEntry b w = some i →
       accessCheck b op w =
         if b.access[i].verdict = .deny then .error (.denied, i.val)
         else if (op = .read ∧ b.access[i].allowRead = false) ∨ (op = .write ∧ b.access[i].allowWrite = false) then
           .error (.op, i.val)
         else if b.access[i].maxCount < w.count then .error (.count, i.val)
         else .ok b.access[i].cls))

/-- The mirror serves a READ from the lowest cell that is FRESH, covers its whole range and is no older than MaxAge, and from
no other; a READ with MaxAge that the ACCESS table permits and a cell serves is answered OK with the cell's words, age and
stamp, whatever the drop port and the node, and nothing but the queue and two counters changes (R80, R81, R99). -/
def Obligations.ReadIsServedFromLowestFreshCell : Prop :=
  ((∀ (s : State) (w : PollKey) (maxAge : Nat) (i : CellIx), servingCell s w maxAge = some i →
       (s.calendar.cells[i]).state = .fresh ∧ (s.config.active.poll[i]).node = w.node ∧
         (s.config.active.poll[i]).space = w.space ∧
         (s.config.active.poll[i]).address.toNat ≤ w.address.toNat ∧
         w.address.toNat + w.count ≤ (s.config.active.poll[i]).address.toNat + (s.config.active.poll[i]).count ∧
         (∃ stamp, (s.calendar.cells[i]).updateStamp = some stamp ∧ (s.time.clock - stamp).toNat ≤ maxAge * 1000) ∧
         ∀ j : CellIx, j < i → canServe s w maxAge j = false) ∧
     (∀ (s : State) (w : PollKey) (maxAge : Nat) (i : CellIx) (stamp : Stamp),
       (s.calendar.cells[i]).state = .fresh → (s.config.active.poll[i]).node = w.node →
       (s.config.active.poll[i]).space = w.space → (s.config.active.poll[i]).address.toNat ≤ w.address.toNat →
       w.address.toNat + w.count ≤ (s.config.active.poll[i]).address.toNat + (s.config.active.poll[i]).count →
       (s.calendar.cells[i]).updateStamp = some stamp → (s.time.clock - stamp).toNat ≤ maxAge * 1000 →
       (servingCell s w maxAge).isSome = true)) ∧
  (∀ (cls : Machine.Class) (i : CellIx) (words : List Word) (stamp : Stamp) (t : Arrival) (f : RequestFrame) (s : State),
     Serving s → placesFull s = false → RequestFormed .read f s →
     accessCheck s.config.active .read (requestRange f) = .ok cls → hasMaxAge f = true →
     servingCell (s.atFrame t) (requestRange f) (maxAgeOf f) = some i →
     (s.calendar.cells[i]).values = some words → (s.calendar.cells[i]).updateStamp = some stamp →
     exec (.read t f) s =
       .next
         (decideA
           (addCount .mirrorServed 1
             (placeReply
               { tag := f.tag, node := f.node, status := .ok, detail := 0#8
                 source := .mirror (BitVec.ofNat 16 (((s.atFrame t).time.clock - stamp).toNat / 1000))
                 stamp := stamp
                 body :=
                   [.raw
                     (bytesOf
                       ((words.drop (f.address.toNat - (s.config.active.poll[i]).address.toNat)).take
                         (countOf f)))] }
               (s.atFrame t)))))

/-- A segment-15 WRITE: one to node 31 that passes steps 1, 2, 3, 6 and 8 is admitted with origin BROADCAST, one that
fails any of them is discarded without a reply and counted, with ACCESS_REFUSED for step 3, and one to any other node is
discarded (R105, R106). That the frame reaches the DOWN relay before Intake, and so the order of the notices of both, is
the model's inference of log entry 9. -/
def Obligations.BroadcastWriteIsAdmittedOrDropped : Prop :=
  (∀ (cls : Machine.Class) (t : Arrival) (f : RequestFrame) (s : State), Serving s → f.node = 31#8 → RequestFormed .write f s →
      accessCheck s.config.active .write (requestRange f) = .ok cls → s.engine.port ≠ .isolated →
      s.engine.port ≠ .jammed → hasRoom s cls = true →
      exec (.broadcastWrite t f) s =
        .next
          (decideA
            (decideDrop
              (admitSlot
                { tag := tagOf f.tag, node := 31, op := .write, space := spaceOf f, address := f.address
                  count := countOf f, payload := wordsOf f.tail, cls := cls, origin := .broadcast, attempts := 0
                  sentOnce := false, state := .queued, outcome := none }
                (s.atBroadcast t (.request .write f)))))) ∧
    (∀ (t : Arrival) (f : RequestFrame) (s : State), Serving s → requestFits .write f →
      (f.node ≠ 31#8 ∨ requestFormFault .write f ≠ none ∨ tagInUse s (tagOf f.tag) = true) →
      exec (.broadcastWrite t f) s =
        .next (decideA (addCount .intakeDiscarded 1 (s.atBroadcast t (.request .write f))))) ∧
    (∀ (d : AccessRefusal) (index : Nat) (t : Arrival) (f : RequestFrame) (s : State), Serving s → f.node = 31#8 →
      RequestFormed .write f s → accessCheck s.config.active .write (requestRange f) = .error (d, index) →
      exec (.broadcastWrite t f) s =
        .next
          (decideA
            (raise .accessRefused (some 31) (BitVec.ofNat 16 index)
              (addCount .intakeDiscarded 1 (s.atBroadcast t (.request .write f)))))) ∧
    (∀ (cls : Machine.Class) (t : Arrival) (f : RequestFrame) (s : State), Serving s → f.node = 31#8 →
      RequestFormed .write f s → accessCheck s.config.active .write (requestRange f) = .ok cls →
      (s.engine.port = .isolated ∨ s.engine.port = .jammed ∨ hasRoom s cls = false) →
      exec (.broadcastWrite t f) s =
        .next (decideA (addCount .intakeDiscarded 1 (s.atBroadcast t (.request .write f)))))

/-- A slot that enters REPLYING writes its outcome, places its reply entry, and, where it is a WRITE completely sent that
its node did not refuse, makes every FRESH cell it overlaps STALE (R12, R14, R20). A used entry of the node, or of any node
where the WRITE was to node 31, overlaps where both have the space and a word address in common (R78). -/
def Obligations.SlotCompletionPlacesReplyAndStalesCells : Prop :=
  (∀ (e : PollEntry) (w : PollKey), 1 ≤ e.count → 1 ≤ w.count →
    (overlaps e w = true ↔
      e.used = true ∧ (w.node.val = 31 ∨ e.node = w.node) ∧ e.space = w.space ∧
        ∃ a : Nat,
          (e.address.toNat ≤ a ∧ a < e.address.toNat + e.count) ∧
            (w.address.toNat ≤ a ∧ a < w.address.toNat + w.count))) ∧
  ∀ (i : SlotIx) (slot : Slot) (status : Status) (detail : Byte) (data : List Word) (s : State),
    s.pool.slots[i] = some slot →
    (completeSlot i status detail data s).pool.slots =
        s.pool.slots.set i.val
          (some
            { slot with
              state := .replying
              outcome :=
                some
                  { status := status, detail := detail, attempts := slot.attempts, stamp := s.time.clock
                    data := data } })
          i.isLt ∧
      (completeSlot i status detail data s).trunk =
        { s.trunk with upstream := s.trunk.upstream ++ [{ item := .slot i, frame := none }] } ∧
      (∀ j : CellIx,
        (completeSlot i status detail data s).calendar.cells[j] =
          if slot.op = .write ∧ slot.sentOnce = true ∧ status ≠ .nodeException ∧
              ¬ (status = .abortedLate ∧ detail = 2#8) ∧ (s.calendar.cells[j]).state = .fresh ∧
              overlaps s.config.active.poll[j]
                { node := slot.node, space := slot.space, address := slot.address, count := slot.count } = true then
            { s.calendar.cells[j] with state := .stale, limit := none }
          else s.calendar.cells[j]) ∧
      completeSlot i status detail data s =
        { s with
          pool := { s.pool with slots := (completeSlot i status detail data s).pool.slots }
          trunk := (completeSlot i status detail data s).trunk
          calendar :=
            { s.calendar with cells := (completeSlot i status detail data s).calendar.cells } }

/-- What a direct ABORT does to its target, and how it is answered: a QUEUED slot leaves its queue and completes ABORTED, an
ACTIVE slot becomes ABORT_PENDING, a pending COMMIT is withdrawn, and any other target is UNKNOWN_TAG; before that, its
form, by the first case that applies, and its own tag are checked (R15, R102, R125, R134). -/
def Obligations.AbortActsOnItsTarget : Prop :=
  (∀ f : AbortFrame,
      (abortFormFault f).map BadRequest.code =
        if f.tail ≠ [] then some 1#8
        else if 64 ≤ f.tag.toNat then some 2#8
        else if f.flags ≠ 0#4 then some 3#8
        else if f.node ≠ 0#8 then some 4#8
        else if 64 ≤ f.target.toNat then some 10#8
        else none) ∧
    (∀ (tag : Tag) (s : State),
      (∀ i, slotOfTag s tag = some i → ∃ slot, s.pool.slots[i] = some slot ∧ slot.tag = tag) ∧
        (slotOfTag s tag = none ↔ ∀ i : SlotIx, ∀ slot, s.pool.slots[i] = some slot → slot.tag ≠ tag)) ∧
    (∀ (d : BadRequest) (t : Arrival) (f : AbortFrame) (s : State), Serving s → placesFull s = false →
      Sys2Proof.Downstream.fits (.abort f) = true → abortFormFault f = some d →
      exec (.abort t f) s = .next (decideA (answer f.tag f.node .badRequest d.code [] (s.atFrame t)))) ∧
    (∀ (t : Arrival) (f : AbortFrame) (s : State), Serving s → placesFull s = false → abortFormFault f = none →
      tagInUse s (tagOf f.tag) = true →
      exec (.abort t f) s = .next (decideA (answer f.tag f.node .duplicateTag 0#8 [] (s.atFrame t)))) ∧
    (∀ (t : Arrival) (f : AbortFrame) (i : SlotIx) (slot : Slot) (s : State), Serving s → placesFull s = false →
      abortFormFault f = none → tagInUse s (tagOf f.tag) = false → slotOfTag s (tagOf f.target) = some i →
      s.pool.slots[i] = some slot →
      (slot.state = .queued →
          exec (.abort t f) s =
            .next
              (decideA
                (answer f.tag f.node .ok 0#8 []
                  (completeSlot i .aborted 0#8 []
                    { s.atFrame t with
                      pool :=
                        { s.pool with
                          urgent := s.pool.urgent.filter (fun j => j != i)
                          normal := s.pool.normal.filter (fun j => j != i)
                          bulk := s.pool.bulk.filter (fun j => j != i) } })))) ∧
        (slot.state = .active →
          exec (.abort t f) s =
            .next
              (decideA
                (answer f.tag f.node .ok 0#8 []
                  { s.atFrame t with
                    pool :=
                      { s.pool with
                        slots :=
                          s.pool.slots.set i.val (some { slot with state := .abortPending }) i.isLt } }))) ∧
        (slot.state = .abortPending ∨ slot.state = .replying →
          exec (.abort t f) s = .next (decideA (answer f.tag f.node .unknownTag 0#8 [] (s.atFrame t))))) ∧
    (∀ (t : Arrival) (f : AbortFrame) (id : Byte) (tag : Tag) (s : State), Serving s → placesFull s = false →
      abortFormFault f = none → tagInUse s (tagOf f.tag) = false → slotOfTag s (tagOf f.target) = none →
      s.config.session = .commitPending id tag → tagOf f.target = tag →
      exec (.abort t f) s =
        .next
          (decideA
            (answer f.tag f.node .ok 0#8 []
              (startSessionTimer id
                (answer (BitVec.ofNat 8 tag.val) 0#8 .aborted 0#8 [] (s.atFrame t)))))) ∧
    (∀ (t : Arrival) (f : AbortFrame) (s : State), Serving s → placesFull s = false → abortFormFault f = none →
      tagInUse s (tagOf f.tag) = false → slotOfTag s (tagOf f.target) = none →
      s.config.session.heldTag ≠ some (tagOf f.target) →
      exec (.abort t f) s = .next (decideA (answer f.tag f.node .unknownTag 0#8 [] (s.atFrame t))))

/-- The checks on a direct MANAGE frame, in order: form, by the first case that applies, tag, code, argument length (R103,
R134, R138). -/
def Obligations.ManageFramesAreCheckedInOrder : Prop :=
  (∀ f : ManageFrame,
      (manageFormFault f).map BadRequest.code =
        if f.args.length ≠ f.argLength.toNat then some 1#8
        else if 64 ≤ f.tag.toNat then some 2#8
        else if f.flags ≠ 0#4 then some 3#8
        else if f.node ≠ 0#8 then some 4#8
        else none) ∧
    (∀ (code : ManageCode) (d : BadRequest) (t : Arrival) (f : ManageFrame) (s : State), Serving s →
      placesFull s = false → Sys2Proof.Downstream.fits (.manage code.byte f) = true → manageFormFault f = some d →
      exec (manageInstr code t f) s = .next (decideA (answer f.tag f.node .badRequest d.code [] (s.atFrame t)))) ∧
    (∀ (code : ManageCode) (t : Arrival) (f : ManageFrame) (s : State), Serving s → placesFull s = false →
      Sys2Proof.Downstream.fits (.manage code.byte f) = true → manageFormFault f = none →
      tagInUse s (tagOf f.tag) = true →
      exec (manageInstr code t f) s = .next (decideA (answer f.tag f.node .duplicateTag 0#8 [] (s.atFrame t)))) ∧
    (∀ (code : ManageCode) (t : Arrival) (f : ManageFrame) (s : State), Serving s → placesFull s = false →
      Sys2Proof.Downstream.fits (.manage code.byte f) = true → manageFormFault f = none →
      tagInUse s (tagOf f.tag) = false → f.args.length ≠ code.argLength →
      exec (manageInstr code t f) s =
        .next (decideA (answer f.tag f.node .badRequest 11#8 [] (s.atFrame t)))) ∧
    (∀ (d : BadRequest) (code : Byte) (t : Arrival) (f : ManageFrame) (s : State), Serving s → placesFull s = false →
      Sys2Proof.Downstream.fits (.manage code f) = true → manageFormFault f = some d →
      exec (.unknownCode t code f) s = .next (decideA (answer f.tag f.node .badRequest d.code [] (s.atFrame t)))) ∧
    (∀ (code : Byte) (t : Arrival) (f : ManageFrame) (s : State), Serving s → placesFull s = false →
      Sys2Proof.Downstream.fits (.manage code f) = true → manageFormFault f = none →
      tagInUse s (tagOf f.tag) = true →
      exec (.unknownCode t code f) s = .next (decideA (answer f.tag f.node .duplicateTag 0#8 [] (s.atFrame t)))) ∧
    (∀ (code : Byte) (t : Arrival) (f : ManageFrame) (s : State), Serving s → placesFull s = false →
      Sys2Proof.Downstream.fits (.manage code f) = true → manageFormFault f = none →
      tagInUse s (tagOf f.tag) = false →
      exec (.unknownCode t code f) s = .next (decideA (answer f.tag f.node .unknownCode code [] (s.atFrame t))))

/-! ### Configuration sessions (chapter 6) -/

/-- EDIT_OPEN: in CLOSED it opens a session under the next id with SHADOW loaded from ACTIVE and the timer started; in OPEN
or COMMIT_PENDING nothing changes and the reply is SESSION_BUSY with the state and the id (R114, R115). -/
def Obligations.EditOpenOpensOnlyClosedSession : Prop :=
  ∀ (t : Arrival) (f : ManageFrame) (s : State), Serving s → ManagePasses .editOpen f s →
    (∀ id : Byte, id = (if s.config.lastId = 255#8 then 1#8 else s.config.lastId + 1#8) → s.config.session = .closed →
      exec (.editOpen t f) s =
        .next
          (decideA
            (answer f.tag f.node .ok 0#8 [.raw (id :: be32 s.config.generation)]
              { s.atFrame t with
                config :=
                  { s.config with
                    shadow := s.config.active, lastId := id
                    session :=
                      .opened id
                        ((s.atFrame t).time.clock + ms (s.config.active.segment.sessionTimeout * 1000)) } }))) ∧
      (∀ (id : Byte) (expiry : Stamp), s.config.session = .opened id expiry →
        exec (.editOpen t f) s =
          .next (decideA (answer f.tag f.node .sessionBusy 0#8 [.raw [1#8, id]] (s.atFrame t)))) ∧
      (∀ (id : Byte) (tag : Tag), s.config.session = .commitPending id tag →
        exec (.editOpen t f) s =
          .next (decideA (answer f.tag f.node .sessionBusy 0#8 [.raw [2#8, id]] (s.atFrame t))))

/-- EDIT_CLOSE by the state of the session: NO_SESSION, COMMIT_PENDING, or SHADOW reloaded from ACTIVE and the session
CLOSED. -/
def Obligations.EditCloseReloadsShadowAndCloses : Prop :=
  ∀ (t : Arrival) (f : ManageFrame) (s : State), Serving s → ManagePasses .editClose f s →
    (s.config.session = .closed →
      exec (.editClose t f) s =
        .next (decideA (answer f.tag f.node .noSession 0#8 [.raw [0#8, 0#8]] (s.atFrame t)))) ∧
      (∀ (id : Byte) (expiry : Stamp), s.config.session = .opened id expiry →
        exec (.editClose t f) s =
          .next
            (decideA
              (if argByte f 0 = id then
                answer f.tag f.node .ok 0#8 []
                  { s.atFrame t with config := { s.config with shadow := s.config.active, session := .closed } }
              else answer f.tag f.node .noSession 0#8 [.raw [1#8, id]] (s.atFrame t)))) ∧
      (∀ (id : Byte) (tag : Tag), s.config.session = .commitPending id tag →
        exec (.editClose t f) s =
          .next
            (decideA
              (answer f.tag f.node (if argByte f 0 = id then .commitPending else .noSession) 0#8 [.raw [2#8, id]]
                (s.atFrame t))))

/-- ENTRY_WRITE in the order of R116: the mode, the session, COMMIT_PENDING, the table, index and fields (R111), and the
write of a whole SHADOW entry from the image or from the cleared contents; a taken or refused write in OPEN restarts the
timer (R112, R114, R116, R138). Which entry a table code and an index name, and the lowest number of a field of each
table's image that lies outside its range (R109 to R111, R139). -/
def Obligations.EntryWriteReplacesShadowEntry : Prop :=
  ((∀ (table index : Byte) (r : EntryRef),
       entryRef table index = .ok r ↔
         match r with
         | .access i => table = 1#8 ∧ index.toNat = i.val
         | .poll i => table = 2#8 ∧ index.toNat = i.val
         | .node i => table = 3#8 ∧ index.toNat = i.val + 1
         | .segment => table = 4#8 ∧ index = 0#8) ∧
     (∀ (table index : Byte) (n : Nat), entryRef table index = .error n →
       n = if table = 0#8 ∨ 4 < table.toNat then 254 else 255) ∧
     (∀ (i : Fin 48) (img : List Byte),
       imageFault (.access i) img =
         if 1 < (byteAt img 0).toNat then some 1
         else if byteAt img 1 = 0#8 ∨ 31 < (byteAt img 1).toNat then some 2
         else if byteAt img 2 = 0#8 ∨ 31 < (byteAt img 2).toNat ∨ byteAt img 2 < byteAt img 1 then some 3
         else if byteAt img 3 &&& 15#8 = 0#8 then some 4
         else if word16 (byteAt img 6) (byteAt img 7) < word16 (byteAt img 4) (byteAt img 5) then some 6
         else if byteAt img 8 ≠ 1#8 ∧ byteAt img 8 ≠ 2#8 then some 7
         else if byteAt img 9 &&& 3#8 = 0#8 then some 8
         else if byteAt img 10 = 0#8 ∨ 32 < (byteAt img 10).toNat then some 9
         else if byteAt img 11 = 0#8 ∨ 3 < (byteAt img 11).toNat then some 10
         else none) ∧
     (∀ (i : Fin 64) (img : List Byte),
       imageFault (.poll i) img =
         if 1 < (byteAt img 0).toNat then some 1
         else if byteAt img 1 = 0#8 ∨ 30 < (byteAt img 1).toNat then some 2
         else if 3 < (byteAt img 2).toNat then some 3
         else if byteAt img 5 = 0#8 ∨ 8 < (byteAt img 5).toNat ∨
             65536 < (word16 (byteAt img 3) (byteAt img 4)).toNat + (byteAt img 5).toNat then
           some 5
         else if byteAt img 6 = 0#8 ∨ 64 < (byteAt img 6).toNat then some 6
         else if 63 < (byteAt img 7).toNat then some 7
         else if byteAt img 8 = 0#8 ∨ 8 < (byteAt img 8).toNat then some 8
         else none) ∧
     (∀ (i : Fin 30) (img : List Byte),
       imageFault (.node i) img =
         if 1 < (byteAt img 0).toNat then some 1
         else if byteAt img 1 = 0#8 then some 2
         else if 3 < (byteAt img 2).toNat then some 3
         else if byteAt img 3 = 0#8 ∨ 15 < (byteAt img 3).toNat then some 4
         else if byteAt img 4 = 0#8 then some 5
         else none) ∧
     (∀ img : List Byte,
       imageFault .segment img =
         if byteAt img 0 = 0#8 ∧ byteAt img 1 = 0#8 ∨ 1000 < (word16 (byteAt img 0) (byteAt img 1)).toNat then some 1
         else if (byteAt img 2).toNat < 2 ∨ 16 < (byteAt img 2).toNat then some 2
         else if (word16 (byteAt img 3) (byteAt img 4)).toNat < 10 ∨
             1000 < (word16 (byteAt img 3) (byteAt img 4)).toNat then
           some 3
         else if byteAt img 5 = 0#8 ∨ 16 < (byteAt img 5).toNat then some 4
         else if (word16 (byteAt img 6) (byteAt img 7)).toNat < 50 ∨
             5000 < (word16 (byteAt img 6) (byteAt img 7)).toNat then
           some 5
         else if byteAt img 8 = 0#8 ∧ byteAt img 9 = 0#8 ∨ 300 < (word16 (byteAt img 8) (byteAt img 9)).toNat then some 6
         else none)) ∧
  ∀ (t : Arrival) (f : ManageFrame) (s : State), Serving s → ManagePasses .entryWrite f s →
    (argByte f 3 ≠ 1#8 → argByte f 3 ≠ 2#8 →
      exec (.entryWrite t f) s = .next (decideA (answer f.tag f.node .badRequest 11#8 [] (s.atFrame t)))) ∧
      (argByte f 3 = 1#8 ∨ argByte f 3 = 2#8 →
        (s.config.session = .closed →
          exec (.entryWrite t f) s =
            .next (decideA (answer f.tag f.node .noSession 0#8 [.raw [0#8, 0#8]] (s.atFrame t)))) ∧
          (∀ (id : Byte) (tag : Tag), s.config.session = .commitPending id tag →
            exec (.entryWrite t f) s =
              .next
                (decideA
                  (answer f.tag f.node (if argByte f 0 = id then .commitPending else .noSession) 0#8 [.raw [2#8, id]]
                    (s.atFrame t)))) ∧
          (∀ (id : Byte) (expiry : Stamp), s.config.session = .opened id expiry → argByte f 0 ≠ id →
            exec (.entryWrite t f) s =
              .next (decideA (answer f.tag f.node .noSession 0#8 [.raw [1#8, id]] (s.atFrame t)))) ∧
          (∀ (id : Byte) (expiry : Stamp) (n : Nat), s.config.session = .opened id expiry → argByte f 0 = id →
            (entryRef (argByte f 1) (argByte f 2) = .error n ∨
              ∃ r, entryRef (argByte f 1) (argByte f 2) = .ok r ∧ argByte f 3 = 1#8 ∧
                imageFault r (f.args.drop 4) = some n) →
            exec (.entryWrite t f) s =
              .next
                (decideA
                  (answer f.tag f.node .badEntry (BitVec.ofNat 8 n) [] (startSessionTimer id (s.atFrame t))))) ∧
          (∀ (id : Byte) (expiry : Stamp) (r : EntryRef), s.config.session = .opened id expiry → argByte f 0 = id →
            entryRef (argByte f 1) (argByte f 2) = .ok r →
            (argByte f 3 = 1#8 → imageFault r (f.args.drop 4) = none) →
            exec (.entryWrite t f) s =
              .next
                (decideA
                  (answer f.tag f.node .ok 0#8 []
                    (startSessionTimer id
                      { s.atFrame t with
                        config :=
                          { s.config with
                            shadow :=
                              if argByte f 3 = 2#8 then s.config.shadow.clearEntry r
                              else s.config.shadow.writeImage r (f.args.drop 4) } })))))

/-- What ENTRY_WRITE stores of an image that R111 passes, an entry image read back reproduces: every field, with unused
bits and bytes 0, in each of the four tables, and no other entry of the bank changes (R111, R116, R139). -/
def Obligations.EntryImagesReadBackAsWritten : Prop :=
  ∀ (r : EntryRef) (img : List Byte) (b : Tables), img.length = 12 → imageFault r img = none →
    (b.writeImage r img).image r =
        (match r with
          | .access _ => (img.set 3 (byteAt img 3 &&& 0x0F#8)).set 9 (byteAt img 9 &&& 0x03#8)
          | .poll _ => img.take 9 ++ [0#8, 0#8, 0#8]
          | .node _ => img.take 5 ++ [0#8, 0#8, 0#8, 0#8, 0#8, 0#8, 0#8]
          | .segment => img.take 10 ++ [0#8, 0#8]) ∧
      ∀ q : EntryRef, q ≠ r → (b.writeImage r img).image q = b.image q

/-- ENTRY_READ of either bank: the fields as they stand and the generation; SHADOW asks for the session id and restarts
the timer in OPEN alone; an argument out of range is refused first (R114, R117, R138). -/
def Obligations.EntryReadReturnsEntryOfBank : Prop :=
  ∀ (t : Arrival) (f : ManageFrame) (s : State), Serving s → ManagePasses .entryRead f s →
    ((∃ n, entryRef (argByte f 1) (argByte f 3) = .error n) ∨ (argByte f 2 ≠ 1#8 ∧ argByte f 2 ≠ 2#8) →
      exec (.entryRead t f) s = .next (decideA (answer f.tag f.node .badRequest 11#8 [] (s.atFrame t)))) ∧
      (∀ r, entryRef (argByte f 1) (argByte f 3) = .ok r → argByte f 2 = 1#8 →
        exec (.entryRead t f) s =
          .next
            (decideA
              (answer f.tag f.node .ok 0#8
                [.raw
                  ([argByte f 1, 1#8, argByte f 3] ++ be32 s.config.generation ++ s.config.active.image r)]
                (s.atFrame t)))) ∧
      (∀ r, entryRef (argByte f 1) (argByte f 3) = .ok r → argByte f 2 = 2#8 →
        (s.config.session = .closed →
          exec (.entryRead t f) s =
            .next (decideA (answer f.tag f.node .noSession 0#8 [.raw [0#8, 0#8]] (s.atFrame t)))) ∧
          (∀ (id : Byte) (expiry : Stamp), s.config.session = .opened id expiry →
            exec (.entryRead t f) s =
              .next
                (decideA
                  (if argByte f 0 = id then
                    answer f.tag f.node .ok 0#8
                      [.raw
                        ([argByte f 1, 2#8, argByte f 3] ++ be32 s.config.generation ++ s.config.shadow.image r)]
                      (startSessionTimer id (s.atFrame t))
                  else answer f.tag f.node .noSession 0#8 [.raw [1#8, id]] (s.atFrame t)))) ∧
          (∀ (id : Byte) (tag : Tag), s.config.session = .commitPending id tag →
            exec (.entryRead t f) s =
              .next
                (decideA
                  (if argByte f 0 = id then
                    answer f.tag f.node .ok 0#8
                      [.raw
                        ([argByte f 1, 2#8, argByte f 3] ++ be32 s.config.generation ++ s.config.shadow.image r)]
                      (s.atFrame t)
                  else answer f.tag f.node .noSession 0#8 [.raw [2#8, id]] (s.atFrame t)))))

/-- COMMIT: the commit checks run on SHADOW; when they pass the commit becomes pending with the frame's tag held and no reply,
when they fail the reply is BAD_TABLE with the lowest failing POLL index and its first failing check, and outside OPEN or
under another id it is refused (R114, R119, R121, R134). The checks pass exactly when every used POLL entry has its phase
below its period, a present node, a key of its own, and a running total of counts within 256, and the fault reported is
the first check that fails at the lowest index at which any does (R120). -/
def Obligations.CommitBecomesPendingWhenChecksPass : Prop :=
  (∀ (t : Arrival) (f : ManageFrame) (s : State), Serving s → ManagePasses .commit f s →
     (s.config.session = .closed →
       exec (.commit t f) s =
         .next (decideA (answer f.tag f.node .noSession 0#8 [.raw [0#8, 0#8]] (s.atFrame t)))) ∧
       (∀ (id : Byte) (tag : Tag), s.config.session = .commitPending id tag →
         exec (.commit t f) s =
           .next
             (decideA
               (answer f.tag f.node (if argByte f 0 = id then .commitPending else .noSession) 0#8 [.raw [2#8, id]]
                 (s.atFrame t)))) ∧
       (∀ (id : Byte) (expiry : Stamp), s.config.session = .opened id expiry → argByte f 0 ≠ id →
         exec (.commit t f) s =
           .next (decideA (answer f.tag f.node .noSession 0#8 [.raw [1#8, id]] (s.atFrame t)))) ∧
       (∀ (id : Byte) (expiry : Stamp) (d : TableFault) (i : CellIx), s.config.session = .opened id expiry →
         argByte f 0 = id → tablesFault s.config.shadow = some (d, i) →
         exec (.commit t f) s =
           .next
             (decideA
               (answer f.tag f.node .badTable d.code [.raw [2#8, BitVec.ofNat 8 i.val]]
                 (startSessionTimer id (s.atFrame t))))) ∧
       (∀ (id : Byte) (expiry : Stamp), s.config.session = .opened id expiry → argByte f 0 = id →
         tablesFault s.config.shadow = none →
         exec (.commit t f) s =
           .next
             (decideA
               { s.atFrame t with config := { s.config with session := .commitPending id (tagOf f.tag) } }))) ∧
  (∀ b : Tables,
     tablesFault b = none ↔
       ∀ i : CellIx, (b.poll[i]).used = true →
         (b.poll[i]).phase < (b.poll[i]).period ∧
           (∃ n, nodeIx? (b.poll[i]).node = some n ∧ (b.node[n]).present = true) ∧
           (∀ j : CellIx, j < i → (b.poll[j]).used = true →
             ¬ ((b.poll[j]).node = (b.poll[i]).node ∧ (b.poll[j]).space = (b.poll[i]).space ∧
               (b.poll[j]).address = (b.poll[i]).address ∧ (b.poll[j]).count = (b.poll[i]).count)) ∧
           (((List.finRange 64).filter (fun j => decide (j ≤ i) && (b.poll[j]).used)).map
               (fun j => (b.poll[j]).count)).sum ≤ 256) ∧
  (∀ (b : Tables) (d : TableFault) (i : CellIx),
     tablesFault b = some (d, i) ↔
       entryTableFault b i = some d ∧ ∀ j : CellIx, j < i → entryTableFault b j = none) ∧
  (∀ (b : Tables) (i : CellIx),
     (entryTableFault b i).map TableFault.code =
       if (b.poll[i]).used = false then none
       else if (b.poll[i]).period ≤ (b.poll[i]).phase then some 1#8
       else if ∀ n, nodeIx? (b.poll[i]).node = some n → (b.node[n]).present = false then some 2#8
       else if ∃ j : CellIx, j < i ∧ (b.poll[j]).used = true ∧ (b.poll[j]).key = (b.poll[i]).key then some 3#8
       else if
          256 <
            (((List.finRange 64).filter (fun j => decide (j ≤ i) && (b.poll[j]).used)).map
              (fun j => (b.poll[j]).count)).sum then
         some 4#8
       else none)

/-! ### Nodes and cells (chapters 3, 4) -/

/-- NODE_READ and CELL_READ return the ACTIVE entry with the health record or the cell, as they stand in the event, laid
out as R139 gives; they change nothing else, and an argument out of range is refused (R63, R82, R104, R139). -/
def Obligations.NodeReadAndCellReadReturnRecords : Prop :=
  (∀ (t : Arrival) (f : ManageFrame) (n : NodeIx) (h : Health) (e : NodeEntry) (s : State), Serving s →
      ManagePasses .nodeRead f s → (argByte f 0).toNat = n.val + 1 → s.monitor.health[n] = h →
      s.config.active.node[n] = e →
      exec (.nodeRead t f) s =
        .next
          (decideA
            (answer f.tag f.node .ok 0#8
              [.raw
                  ([argByte f 0, h.state.code, if e.present then 1#8 else 0#8, BitVec.ofNat 8 e.window,
                      BitVec.ofNat 8 e.retryLimit, BitVec.ofNat 8 e.threshold, BitVec.ofNat 8 e.probeUnits,
                      BitVec.ofNat 8 h.failures] ++
                    be32 h.successCount ++ be32 h.failureCount ++ be32 (h.lastLatency.getD 0#32) ++
                    be32 (h.maxLatency.getD 0#32)),
                match h.offlineSince with
                | some stamp => .hostTime stamp
                | none => .raw [0#8, 0#8, 0#8, 0#8, 0#8, 0#8],
                match h.probeDue with
                | some stamp => .hostTime stamp
                | none => .raw [0#8, 0#8, 0#8, 0#8, 0#8, 0#8],
                .raw
                  [h.claim.code,
                    (if h.lastLatency.isSome then 1#8 else 0#8) + (if h.maxLatency.isSome then 2#8 else 0#8) +
                      (if h.offlineSince.isSome then 4#8 else 0#8) + (if h.probeDue.isSome then 8#8 else 0#8)]]
              (s.atFrame t)))) ∧
    (∀ (t : Arrival) (f : ManageFrame) (s : State), Serving s → ManagePasses .nodeRead f s →
      (argByte f 0 = 0#8 ∨ 30 < (argByte f 0).toNat) →
      exec (.nodeRead t f) s = .next (decideA (answer f.tag f.node .badRequest 11#8 [] (s.atFrame t)))) ∧
    (∀ (t : Arrival) (f : ManageFrame) (i : CellIx) (c : Cell) (e : PollEntry) (s : State), Serving s →
      ManagePasses .cellRead f s → (argByte f 0).toNat = i.val → s.calendar.cells[i] = c →
      s.config.active.poll[i] = e →
      exec (.cellRead t f) s =
        .next
          (decideA
            (answer f.tag f.node .ok 0#8
              [.raw
                  ([argByte f 0] ++ be32 s.config.generation ++
                    [if e.used then 1#8 else 0#8, BitVec.ofNat 8 e.node.val, BitVec.ofNat 8 e.space.val] ++
                    be16 e.address ++
                    [BitVec.ofNat 8 e.count, BitVec.ofNat 8 e.period, BitVec.ofNat 8 e.phase,
                      BitVec.ofNat 8 e.staleFactor, c.state.code,
                      (if c.values.isSome then 1#8 else 0#8) + (if c.updateStamp.isSome then 2#8 else 0#8) +
                        (if c.limit.isSome then 4#8 else 0#8) + (if c.lastFailure.isSome then 8#8 else 0#8),
                      (if i ∈ s.calendar.dueList then 1#8 else 0#8) + (if pollActive s e.key then 2#8 else 0#8)] ++
                    be16 c.updateCount ++ [BitVec.ofNat 8 c.missCount] ++
                    (match c.lastFailure with
                      | some (status, detail) => [status.code, detail]
                      | none => [0#8, 0#8]) ++
                    be16
                      (match c.updateStamp with
                        | some stamp =>
                          BitVec.ofNat 16 (min 65535 (((s.atFrame t).time.clock - stamp).toNat / 1000))
                        | none => 0#16)),
                match c.updateStamp with
                | some stamp => .hostTime stamp
                | none => .raw [0#8, 0#8, 0#8, 0#8, 0#8, 0#8],
                match c.limit with
                | some stamp => .hostTime stamp
                | none => .raw [0#8, 0#8, 0#8, 0#8, 0#8, 0#8],
                .raw (bytesOf (((c.values.getD []) ++ List.replicate 8 0#16).take 8))]
              (s.atFrame t)))) ∧
    (∀ (t : Arrival) (f : ManageFrame) (s : State), Serving s → ManagePasses .cellRead f s →
      63 < (argByte f 0).toNat →
      exec (.cellRead t f) s = .next (decideA (answer f.tag f.node .badRequest 11#8 [] (s.atFrame t))))

/-- NODE_DISABLE of a node in service or OFFLINE: the state, the flush by node, the cells and the due list, the probe, the
indicator, and the OK reply after the flush's entries; a DISABLED node is left as it is, an ABSENT one refused, and so is a
node outside 1 to 30 (R18, R60, R73, R104). That an EMPTY cell of a node that was OFFLINE becomes FAILED too is the model's
choice of log entry 25. -/
def Obligations.NodeDisableTakesNodeOutOfService : Prop :=
  (∀ (t : Arrival) (f : ManageFrame) (s : State), Serving s → ManagePasses .nodeDisable f s →
    (argByte f 0 = 0#8 ∨ 30 < (argByte f 0).toNat) →
    exec (.nodeDisable t f) s = .next (decideA (answer f.tag f.node .badRequest 11#8 [] (s.atFrame t)))) ∧
  ∀ (t : Arrival) (f : ManageFrame) (n : NodeIx) (s : State), Serving s → ManagePasses .nodeDisable f s →
    (argByte f 0).toNat = n.val + 1 →
    ((s.monitor.health[n]).state = .absent →
      exec (.nodeDisable t f) s =
        .next
          (decideA
            (answer f.tag f.node .nodeAbsent 0#8 [.raw [argByte f 0, HealthState.absent.code]] (s.atFrame t)))) ∧
      ((s.monitor.health[n]).state = .disabled →
        exec (.nodeDisable t f) s =
          .next
            (decideA
              (answer f.tag f.node .ok 0#8 [.raw [argByte f 0, HealthState.disabled.code]] (s.atFrame t)))) ∧
      ((s.monitor.health[n]).state ≠ .absent → (s.monitor.health[n]).state ≠ .disabled →
        ∃ u, exec (.nodeDisable t f) s =
            .next
              (decideA (answer f.tag f.node .ok 0#8 [.raw [argByte f 0, HealthState.disabled.code]] u)) ∧
          u.monitor.health[n] =
            { s.monitor.health[n] with
              state := .disabled, probeDue := none, offlineSince := none
              claim :=
                if (s.monitor.health[n]).claim = .listed then .none else (s.monitor.health[n]).claim } ∧
          (∀ m : NodeIx, m ≠ n → u.monitor.health[m] = s.monitor.health[m]) ∧
          u.monitor.probeList = s.monitor.probeList.filter (fun m => m != n) ∧
          u.calendar.dueList =
            s.calendar.dueList.filter (fun i => (s.config.active.poll[i]).node != nodeAddr n) ∧
          (∀ i : CellIx,
            u.calendar.cells[i] =
              if (s.config.active.poll[i]).used = true ∧ (s.config.active.poll[i]).node = nodeAddr n then
                { s.calendar.cells[i] with state := .failed, limit := none }
              else s.calendar.cells[i]) ∧
          u.pool = (flush (fun slot => slot.node == nodeAddr n) .nodeDisabled (s.atFrame t)).pool ∧
          u.trunk = (flush (fun slot => slot.node == nodeAddr n) .nodeDisabled (s.atFrame t)).trunk ∧
          (u.status.indNode = true ↔ ∃ m : NodeIx, (u.monitor.health[m]).state = .offline) ∧
          u.status.counters = (s.atFrame t).status.counters ∧ u.engine = s.engine ∧ u.config = s.config ∧
          u.notices = s.notices ∧ u.time = (s.atFrame t).time)

/-- NODE_ENABLE by the node's health state: a DISABLED node becomes UNKNOWN with no consecutive failures and the rest of its
record kept, and no other state is left; an ABSENT node is refused (R61, R134). NODE_REVIVE by the node's state and the
drop port: it lists the probe of an OFFLINE node whose timer is armed, with a grant decision, and has no other effect
(R62). Both refuse a node outside 1 to 30 (R104). -/
def Obligations.NodeEnableAndReviveFollowHealthState : Prop :=
  (∀ (t : Arrival) (f : ManageFrame) (s : State), Serving s → ManagePasses .nodeEnable f s →
    (∀ n : NodeIx, (argByte f 0).toNat = n.val + 1 →
      ((s.monitor.health[n]).state = .disabled →
        exec (.nodeEnable t f) s =
          .next
            (decideA
              (answer f.tag f.node .ok 0#8 [.raw [argByte f 0, HealthState.unknown.code]]
                { s.atFrame t with
                  monitor :=
                    { s.monitor with
                      health :=
                        s.monitor.health.set n.val
                          { s.monitor.health[n] with state := .unknown, failures := 0 } n.isLt } }))) ∧
        ((s.monitor.health[n]).state = .absent →
          exec (.nodeEnable t f) s =
            .next
              (decideA
                (answer f.tag f.node .nodeAbsent 0#8 [.raw [argByte f 0, HealthState.absent.code]]
                  (s.atFrame t)))) ∧
        ((s.monitor.health[n]).state ≠ .disabled → (s.monitor.health[n]).state ≠ .absent →
          exec (.nodeEnable t f) s =
            .next
              (decideA
                (answer f.tag f.node .ok 0#8 [.raw [argByte f 0, (s.monitor.health[n]).state.code]]
                  (s.atFrame t))))) ∧
      (argByte f 0 = 0#8 ∨ 30 < (argByte f 0).toNat →
        exec (.nodeEnable t f) s = .next (decideA (answer f.tag f.node .badRequest 11#8 [] (s.atFrame t))))) ∧
  (∀ (t : Arrival) (f : ManageFrame) (s : State), Serving s → ManagePasses .nodeRevive f s →
    (argByte f 0 = 0#8 ∨ 30 < (argByte f 0).toNat) →
    exec (.nodeRevive t f) s = .next (decideA (answer f.tag f.node .badRequest 11#8 [] (s.atFrame t)))) ∧
  ∀ (t : Arrival) (f : ManageFrame) (n : NodeIx) (s : State), Serving s → ManagePasses .nodeRevive f s →
    (argByte f 0).toNat = n.val + 1 →
    ((s.monitor.health[n]).state = .offline →
      ((s.monitor.health[n]).claim = .none → (s.monitor.health[n]).probeDue.isSome = true →
        s.engine.port ≠ .jammed → s.engine.port ≠ .isolated →
        ∃ u, u =
            { s.atFrame t with
              monitor :=
                { probeList := s.monitor.probeList ++ [n]
                  health :=
                    s.monitor.health.set n.val
                      { s.monitor.health[n] with claim := .listed, probeDue := none } n.isLt } } ∧
          exec (.nodeRevive t f) s =
            .next
              (decideA
                (answer f.tag f.node .ok 0#8 [.raw [argByte f 0, HealthState.offline.code]] (decideDrop u)))) ∧
        ((s.monitor.health[n]).claim ≠ .none →
          exec (.nodeRevive t f) s =
            .next
              (decideA
                (answer f.tag f.node .ok 0#8 [.raw [argByte f 0, HealthState.offline.code]] (s.atFrame t)))) ∧
        ((s.monitor.health[n]).claim = .none → s.engine.port = .jammed →
          exec (.nodeRevive t f) s =
            .next
              (decideA
                (answer f.tag f.node .lineFault 0#8 [.raw [argByte f 0, HealthState.offline.code]]
                  (s.atFrame t)))) ∧
        ((s.monitor.health[n]).claim = .none → s.engine.port = .isolated →
          exec (.nodeRevive t f) s =
            .next
              (decideA
                (answer f.tag f.node .isolated 0#8 [.raw [argByte f 0, HealthState.offline.code]]
                  (s.atFrame t))))) ∧
      ((s.monitor.health[n]).state = .unknown ∨ (s.monitor.health[n]).state = .online ∨
          (s.monitor.health[n]).state = .suspect →
        exec (.nodeRevive t f) s =
          .next
            (decideA
              (answer f.tag f.node .ok 0#8 [.raw [argByte f 0, (s.monitor.health[n]).state.code]]
                (s.atFrame t)))) ∧
      ((s.monitor.health[n]).state = .disabled →
        exec (.nodeRevive t f) s =
          .next
            (decideA
              (answer f.tag f.node .nodeDisabled 0#8 [.raw [argByte f 0, HealthState.disabled.code]]
                (s.atFrame t)))) ∧
      ((s.monitor.health[n]).state = .absent →
        exec (.nodeRevive t f) s =
          .next
            (decideA
              (answer f.tag f.node .nodeAbsent 0#8 [.raw [argByte f 0, HealthState.absent.code]]
                (s.atFrame t))))

/-! ### The drop port, notices, the clock and the counters (chapters 2, 9, 10) -/

/-- DROP_ISOLATE by the port's state: isolation in the event from IDLE, JAMMED and GUARD, where the grant is first returned;
the pending isolate from SENDING, AWAITING and RECEIVING; and an OK with no effect where the port is ISOLATED or an
isolate is pending (R42, R43, R44). What a returned grant does, and that the flush by port completes every QUEUED slot,
empties the due list and the probe list, and arms the timer of each OFFLINE node whose claim it removes (R10, R13, R19,
R58). That isolation clears what an attempt left is the model's inference of log entry 21. -/
def Obligations.DropIsolateTakesEffectOrPends : Prop :=
  ((∀ s : State, s.engine.txn = none → returnGrant s = s) ∧
     (∀ (x : Txn) (i : SlotIx) (slot : Slot) (s : State), s.engine.txn = some x → x.claimant = .host i →
       s.pool.slots[i] = some slot →
       (slot.state ≠ .abortPending →
           returnGrant s =
             { s with
               pool :=
                 { s.pool with
                   slots := s.pool.slots.set i.val (some { slot with state := .queued }) i.isLt
                   urgent := if slot.cls = .urgent then i :: s.pool.urgent else s.pool.urgent
                   normal := if slot.cls = .normal then i :: s.pool.normal else s.pool.normal
                   bulk := if slot.cls = .bulk then i :: s.pool.bulk else s.pool.bulk } }) ∧
         (slot.state = .abortPending →
           returnGrant s =
             completeSlot i (if slot.op = .write ∧ slot.sentOnce = true then .abortedLate else .aborted) 0#8 [] s)) ∧
     (∀ (x : Txn) (i : CellIx) (s : State), s.engine.txn = some x → x.claimant = .poll i →
       returnGrant s = { s with calendar := { s.calendar with dueList := i :: s.calendar.dueList } }) ∧
     (∀ (x : Txn) (n : NodeIx) (s : State), s.engine.txn = some x → x.claimant = .probe n →
       returnGrant s =
         { s with
           monitor :=
             { probeList := n :: s.monitor.probeList
               health := s.monitor.health.set n.val { s.monitor.health[n] with claim := .listed } n.isLt } })) ∧
  (∀ (status : Status) (s : State), ∃ v, v = flush (fun _ => true) status s ∧
     flushPort status s =
       { v with
         calendar := { v.calendar with dueList := [] }, monitor := (flushPort status s).monitor } ∧
     (flushPort status s).monitor.probeList = [] ∧
     (∀ n : NodeIx,
       (flushPort status s).monitor.health[n] =
         if n ∈ s.monitor.probeList then
           { s.monitor.health[n] with
             claim := .none
             probeDue :=
               if (s.monitor.health[n]).state = .offline then
                 some (s.time.clock + ms ((s.config.active.node[n]).probeUnits * 100))
               else (s.monitor.health[n]).probeDue }
         else s.monitor.health[n])) ∧
  ∀ (t : Arrival) (f : ManageFrame) (s : State), Serving s → ManagePasses .dropIsolate f s →
    (∀ v : State,
      (s.engine.port = .idle ∨ s.engine.port = .jammed → v = s.atFrame t) →
      (s.engine.port = .guard → v = returnGrant (s.atFrame t)) →
      s.engine.port = .idle ∨ s.engine.port = .jammed ∨ s.engine.port = .guard →
      exec (.dropIsolate t f) s =
        .next
          (decideA
            (answer f.tag f.node .ok 0#8 [.raw [6#8]]
              (flushPort .isolated
                { v with
                  status := { v.status with indLine := false }
                  engine :=
                    { v.engine with
                      port := .isolated, txn := none, deadline := none, endOfRequest := none, firstChar := none
                      rxBuffer := [], discard := none, discardStart := none, pendingIsolate := none
                      jamStart := none, txFrame := [], txStart := none, dropDE := false } })))) ∧
      (s.engine.port = .sending ∨ s.engine.port = .awaiting ∨ s.engine.port = .receiving →
        s.engine.pendingIsolate = none →
        exec (.dropIsolate t f) s =
          .next
            (decideA
              { s.atFrame t with engine := { s.engine with pendingIsolate := some (tagOf f.tag) } })) ∧
      (s.engine.port = .isolated ∨
          ((s.engine.port = .sending ∨ s.engine.port = .awaiting ∨ s.engine.port = .receiving) ∧
            s.engine.pendingIsolate.isSome = true) →
        exec (.dropIsolate t f) s =
          .next (decideA (answer f.tag f.node .ok 0#8 [.raw [s.engine.port.code]] (s.atFrame t))))

/-- DROP_RESUME by the port's state: it takes an ISOLATED port to IDLE with the silence counted from now, in SENDING,
AWAITING or RECEIVING cancels a pending isolate with an ABORTED reply before its own, and otherwise has no effect (R46).
That the reply from ISOLATED is placed, with port state IDLE, before the grant decision is the model's inference of log
entry 20. -/
def Obligations.DropResumeLeavesIsolationOrCancels : Prop :=
  ∀ (t : Arrival) (f : ManageFrame) (s : State), Serving s → ManagePasses .dropResume f s →
    (s.engine.port = .isolated →
      exec (.dropResume t f) s =
        .next
          (decideA
            (decideDrop
              (answer f.tag f.node .ok 0#8 [.raw [0#8]]
                { s.atFrame t with
                  engine := { s.engine with port := .idle, lastActivity := (s.atFrame t).time.clock } })))) ∧
      (∀ tag : Tag, s.engine.port = .sending ∨ s.engine.port = .awaiting ∨ s.engine.port = .receiving →
        s.engine.pendingIsolate = some tag →
        exec (.dropResume t f) s =
          .next
            (decideA
              (answer f.tag f.node .ok 0#8 [.raw [s.engine.port.code]]
                (answer (BitVec.ofNat 8 tag.val) 0#8 .aborted 0#8 []
                  { s.atFrame t with engine := { s.engine with pendingIsolate := none } })))) ∧
      (s.engine.port = .idle ∨ s.engine.port = .guard ∨ s.engine.port = .jammed ∨
          ((s.engine.port = .sending ∨ s.engine.port = .awaiting ∨ s.engine.port = .receiving) ∧
            s.engine.pendingIsolate = none) →
        exec (.dropResume t f) s =
          .next (decideA (answer f.tag f.node .ok 0#8 [.raw [s.engine.port.code]] (s.atFrame t))))

/-- NOTICE_ACK of the IN_FLIGHT sequence removes that record, clears the resend timer and turns a held loss into a new loss
record; any other sequence is STALE_ACK and changes nothing. NOTICE_MASK replaces the mask, removes the UNSENT ordinary
records of its kinds and nothing else, and answers with the mask in force; a bit outside 5 to 11 is refused (R138, R160,
R165, R166). -/
def Obligations.NoticeAckAndMaskChangeTheQueue : Prop :=
  (∀ (t : Arrival) (f : ManageFrame) (s : State), Serving s → ManagePasses .noticeAck f s →
     (∀ (r : NoticeRecord) (x : Flight), s.notices.loss = some r → r.flight = some x → x.sequence = argByte f 0 →
       exec (.noticeAck t f) s =
         .next
           (decideA
             (answer f.tag f.node .ok 0#8 []
               { s.atFrame t with
                 notices :=
                   { s.notices with
                     resend := none, resendDue := false, heldLoss := none
                     loss :=
                       s.notices.heldLoss.map fun h =>
                         { kind := .noticesLost, node := none, detail := BitVec.ofNat 16 h.kind.code
                           first := h.first, last := h.last, repeats := h.count, flight := none } } }))) ∧
       (∀ (x : Flight), s.notices.loss.all (fun r => r.flight.isNone) = true →
         s.notices.inFlight.bind NoticeRecord.flight = some x → x.sequence = argByte f 0 →
         exec (.noticeAck t f) s =
           .next
             (decideA
               (answer f.tag f.node .ok 0#8 []
                 { s.atFrame t with
                   notices :=
                     { s.notices with
                       resend := none, resendDue := false
                       ordinary := s.notices.ordinary.eraseP (fun r => r.flight.isSome) } }))) ∧
       (s.notices.inFlight = none →
         exec (.noticeAck t f) s =
           .next (decideA (answer f.tag f.node .staleAck 0#8 [.raw [0#8, 0#8]] (s.atFrame t)))) ∧
       (∀ (x : Flight), s.notices.inFlight.bind NoticeRecord.flight = some x → x.sequence ≠ argByte f 0 →
         exec (.noticeAck t f) s =
           .next (decideA (answer f.tag f.node .staleAck 0#8 [.raw [1#8, x.sequence]] (s.atFrame t))))) ∧
  (∀ (t : Arrival) (f : ManageFrame) (mask : BitVec 16) (s : State), Serving s → ManagePasses .noticeMask f s →
     mask = word16 (argByte f 0) (argByte f 1) →
     ((∀ k : Nat, mask.getLsbD k = true → 5 ≤ k ∧ k ≤ 11) →
       exec (.noticeMask t f) s =
         .next
           (decideA
             (answer f.tag f.node .ok 0#8 [.raw [argByte f 0, argByte f 1]]
               { s.atFrame t with
                 notices :=
                   { s.notices with
                     mask := mask
                     ordinary :=
                       s.notices.ordinary.filter
                         (fun r => r.flight.isSome || !mask.getLsbD r.kind.code) } }))) ∧
       ((∃ k : Nat, mask.getLsbD k = true ∧ (k < 5 ∨ 11 < k)) →
         exec (.noticeMask t f) s = .next (decideA (answer f.tag f.node .badRequest 11#8 [] (s.atFrame t)))))

/-- CLOCK_READ gives host time, segment clock and epoch offset at the arrival instant and changes nothing else; EPOCH_SET,
direct or broadcast, sets the offset so that host time at the arrival instant is its value, with a reply for the direct
frame alone (R107, R144, R171, R172). -/
def Obligations.ClockReadAndEpochSetUseArrivalInstant : Prop :=
  (∀ (t : Arrival) (f : ManageFrame) (s : State), Serving s → ManagePasses .clockRead f s →
      exec (.clockRead t f) s =
        .next
          (decideA
            (answer f.tag f.node .ok 0#8
              [.raw (be48 (s.arrival t + s.time.epoch) ++ be48 (s.arrival t) ++ be48 s.time.epoch)]
              (s.atFrame t)))) ∧
    (∀ (t : Arrival) (f : ManageFrame) (s : State), Serving s → ManagePasses .epochSet f s →
      exec (.epochSet t .direct f) s =
        .next
          (decideA
            (answer f.tag f.node .ok 0#8 [.raw (be48 (word48 f.args - s.arrival t))]
              { s.atFrame t with
                time := { (s.atFrame t).time with epoch := word48 f.args - s.arrival t } }))) ∧
    (∀ (t : Arrival) (f : ManageFrame) (s : State), Serving s → manageFormFault f = none → f.args.length = 6 →
      exec (.epochSet t .broadcast f) s =
        .next
          (decideA
            { s.atBroadcast t (.manage 0x61#8 f) with
              time := { (s.atFrame t).time with epoch := word48 f.args - s.arrival t } })) ∧
    (∀ (t : Arrival) (f : ManageFrame) (s : State), Serving s →
      Sys2Proof.Downstream.fits (.manage 0x61#8 f) = true → (manageFormFault f ≠ none ∨ f.args.length ≠ 6) →
      exec (.epochSet t .broadcast f) s =
        .next (decideA (addCount .intakeDiscarded 1 (s.atBroadcast t (.manage 0x61#8 f)))))

/-- STATUS_READ gives the 23 bytes of R139, each value as it stands in the event, and changes nothing else; that the Upstream
Queue is counted before the request's own reply is placed is the model's choice of log entry 10. COUNTERS_READ: part 1
captures the 24 counters and the instant into the held snapshot, zeroes them if clear is 1, and answers with counters 1 to
12; part 2 answers with counters 13 to 24 of the held snapshot and changes nothing else; any other argument is refused
(R21, R138, R139, R140, R173). -/
def Obligations.StatusAndCountersAreReported : Prop :=
  (∀ (t : Arrival) (f : ManageFrame) (s : State), Serving s → ManagePasses .statusRead f s →
     exec (.statusRead t f) s =
       .next
         (decideA
           (answer f.tag f.node .ok 0#8
             [.raw
               ([BitVec.ofNat 8 s.segment.val, BitVec.ofNat 8 s.rate.val,
                   (if s.trunk.bUp then 4#8 else 0#8) + (if s.status.indLine then 8#8 else 0#8) +
                     (if s.status.indNode then 16#8 else 0#8),
                   s.status.resetCause.code] ++
                 be32 s.config.generation ++
                 [s.config.session.code, s.config.session.idByte, s.engine.port.code,
                   BitVec.ofNat 8 s.pool.urgent.length, BitVec.ofNat 8 s.pool.normal.length,
                   BitVec.ofNat 8 s.pool.bulk.length, BitVec.ofNat 8 (countState s .active),
                   BitVec.ofNat 8 (countState s .abortPending), BitVec.ofNat 8 (countState s .replying),
                   BitVec.ofNat 8 (freeSlots s), BitVec.ofNat 8 s.pool.credit,
                   BitVec.ofNat 8 (s.trunk.upstream.countP (fun e => !e.isImmediate)),
                   BitVec.ofNat 8 (placesTaken s), BitVec.ofNat 8 s.notices.ordinary.length,
                   (if s.notices.loss.isSome then 1#8 else 0#8) +
                     (if s.notices.inFlight.isSome then 2#8 else 0#8)])]
             (s.atFrame t)))) ∧
  (∀ (t : Arrival) (f : ManageFrame) (s : State), Serving s → ManagePasses .countersRead f s →
     (argByte f 1 = 1#8 → (argByte f 0 = 0#8 ∨ argByte f 0 = 1#8) →
       exec (.countersRead t f) s =
         .next
           (decideA
             (answer f.tag f.node .ok 0#8
               [.raw [1#8], .hostTime (s.atFrame t).time.clock,
                 .raw (((s.atFrame t).status.counters.toList.take 12).flatMap be32)]
               { s.atFrame t with
                 status :=
                   { s.status with
                     snapshot := (s.atFrame t).status.counters, snapshotAt := (s.atFrame t).time.clock
                     counters :=
                       if argByte f 0 = 1#8 then Vector.replicate 24 0#32
                       else (s.atFrame t).status.counters } }))) ∧
       (argByte f 1 = 2#8 → argByte f 0 = 0#8 →
         exec (.countersRead t f) s =
           .next
             (decideA
               (answer f.tag f.node .ok 0#8
                 [.raw [2#8], .hostTime s.status.snapshotAt,
                   .raw (((s.status.snapshot.toList.drop 12).take 12).flatMap be32)]
                 (s.atFrame t)))) ∧
       (¬ (argByte f 1 = 1#8 ∧ (argByte f 0 = 0#8 ∨ argByte f 0 = 1#8)) → ¬ (argByte f 1 = 2#8 ∧ argByte f 0 = 0#8) →
         exec (.countersRead t f) s = .next (decideA (answer f.tag f.node .badRequest 11#8 [] (s.atFrame t)))))

/-- SEGMENT_RESET performs the soft reset of every block in its one event, then, for a direct frame, places its OK reply in
the emptied Upstream Queue, and raises RESET_DONE with detail SOFT (R23, R48, R66, R87, R107, R127, R140, R155, R168,
R178). The model's inferences: a broadcast frame reaches the DOWN relay before Intake (log entry 9), a frame being sent
ends with the character after those that have ended (log entry 15), and the attempt's stamps, buffer and discard items are
cleared (log entry 21). -/
def Obligations.SegmentResetSoftResetsEveryBlock : Prop :=
  (∀ s : State, ∃ u, softReset s = u ∧ u.segment = s.segment ∧ u.rate = s.rate ∧ u.time = s.time ∧
      u.status =
        { counters := Vector.replicate 24 0#32, snapshot := Vector.replicate 24 0#32, snapshotAt := s.time.clock
          resetCause := .soft, indLine := false, indNode := false } ∧
      u.pool = { slots := Vector.replicate 32 none, urgent := [], normal := [], bulk := [], credit := 0 } ∧
      u.engine =
        { s.engine with
          port :=
            match s.engine.port with
            | .sending => .sending
            | .isolated => .isolated
            | _ => .idle
          txn := none, deadline := none, endOfRequest := none, firstChar := none, rxBuffer := [], discard := none
          discardStart := none, pendingIsolate := none, jamStart := none
          txFrame := if s.engine.port = .sending then s.engine.txFrame.take (ownCharsEnded s + 1) else []
          txStart := if s.engine.port = .sending then s.engine.txStart else none } ∧
      (∀ n : NodeIx,
        u.monitor.health[n] =
          { state :=
              match (s.monitor.health[n]).state with
              | .absent => .absent
              | .disabled => .disabled
              | _ => .unknown
            failures := 0, successCount := 0#32, failureCount := 0#32, lastLatency := none, maxLatency := none
            offlineSince := none, probeDue := none, claim := .none }) ∧
      u.monitor.probeList = [] ∧
      u.calendar =
        { counter := 0#32, nextBoundary := s.time.clock + ms s.config.active.segment.baseCycle
          baseCycle := s.config.active.segment.baseCycle, dueList := []
          cells := Vector.replicate 64 Cell.cleared } ∧
      u.config = { s.config with shadow := s.config.active, session := .closed } ∧
      u.trunk =
        { s.trunk with
          upstream := [], marker := .notice
          aTx :=
            s.trunk.aTx.map fun tx => { tx with live := if tx.claimant = .upRelay then tx.live else false } } ∧
      u.notices =
        { s.notices with
          ordinary := [], loss := none, heldLoss := none, nextSequence := 0#8, resend := none, resendDue := false } ∧
      u.held = s.held ∧ u.pending = s.pending) ∧
    (∀ (t : Arrival) (f : ManageFrame) (s : State), Serving s → ManagePasses .segmentReset f s →
      exec (.segmentReset t .direct f) s =
        .next
          (decideA (raise .resetDone none 3#16 (answer f.tag f.node .ok 0#8 [] (softReset (s.atFrame t)))))) ∧
    (∀ (t : Arrival) (f : ManageFrame) (s : State), Serving s → manageFormFault f = none → f.args = [] →
      exec (.segmentReset t .broadcast f) s =
        .next (decideA (raise .resetDone none 3#16 (softReset (s.atBroadcast t (.manage 0x72#8 f)))))) ∧
    (∀ (t : Arrival) (f : ManageFrame) (s : State), Serving s →
      Sys2Proof.Downstream.fits (.manage 0x72#8 f) = true → (manageFormFault f ≠ none ∨ f.args ≠ []) →
      exec (.segmentReset t .broadcast f) s =
        .next (decideA (addCount .intakeDiscarded 1 (s.atBroadcast t (.manage 0x72#8 f)))))

/-! ### The drop arbiter and the drop engine (chapters 1, 2) -/

/-- A grant decision, made in IDLE alone: the URGENT head, the due list's head, the probe list's head, then the NORMAL or
BULK head by the bulk-credit counter, which changes at grants of rank 4 alone and is 0 after a reset (R6 to R9). -/
def Obligations.GrantFollowsRankAndBulkCredit : Prop :=
  (∀ s : State, s.engine.port ≠ .idle → decideDrop s = s) ∧
    (∀ s : State, s.engine.port = .idle → s.pool.urgent = [] → s.calendar.dueList = [] → s.monitor.probeList = [] →
      s.pool.normal = [] → s.pool.bulk = [] → decideDrop s = s) ∧
    (∀ (i : SlotIx) (rest : List SlotIx) (s : State), s.engine.port = .idle → s.pool.urgent = i :: rest →
      decideDrop s = grantHost i { s with pool := { s.pool with urgent := rest } }) ∧
    (∀ (i : CellIx) (rest : List CellIx) (s : State), s.engine.port = .idle → s.pool.urgent = [] →
      s.calendar.dueList = i :: rest →
      decideDrop s = grantPoll i { s with calendar := { s.calendar with dueList := rest } }) ∧
    (∀ (n : NodeIx) (rest : List NodeIx) (s : State), s.engine.port = .idle → s.pool.urgent = [] →
      s.calendar.dueList = [] → s.monitor.probeList = n :: rest →
      decideDrop s = grantProbe n { s with monitor := { s.monitor with probeList := rest } }) ∧
    (∀ s : State, s.engine.port = .idle → s.pool.urgent = [] → s.calendar.dueList = [] → s.monitor.probeList = [] →
      (∀ (i : SlotIx) (rest : List SlotIx), s.pool.normal = i :: rest → s.pool.bulk = [] →
          decideDrop s = grantHost i { s with pool := { s.pool with normal := rest } }) ∧
        (∀ (i : SlotIx) (rest : List SlotIx), s.pool.normal = i :: rest → s.pool.bulk ≠ [] →
          s.pool.credit < s.config.active.segment.bulkShare →
          decideDrop s =
            grantHost i { s with pool := { s.pool with normal := rest, credit := s.pool.credit + 1 } }) ∧
        (∀ (i : SlotIx) (rest : List SlotIx), s.pool.bulk = i :: rest →
          s.pool.normal = [] ∨ s.config.active.segment.bulkShare ≤ s.pool.credit →
          decideDrop s = grantHost i { s with pool := { s.pool with bulk := rest, credit := 0 } })) ∧
    (∀ s : State, s.pool.urgent ≠ [] ∨ s.calendar.dueList ≠ [] ∨ s.monitor.probeList ≠ [] →
      (decideDrop s).pool.credit = s.pool.credit) ∧
    (∀ s : State, (softReset s).pool.credit = 0) ∧ State.reset.pool.credit = 0 ∧
    (∀ (i : SlotIx) (slot : Slot) (s : State), s.pool.slots[i] = some slot →
      grantHost i s =
        enterGuard
          { claimant := .host i, node := slot.node, op := slot.op, space := slot.space, address := slot.address
            count := slot.count, payload := slot.payload, ownAttempts := 0, window := grantedWindow s slot.node }
          { s with
            pool := { s.pool with slots := s.pool.slots.set i.val (some { slot with state := .active }) i.isLt } })

/-- GUARD and the attempt it leads to: entry sets the guard entry instant and reads the guard gap and the busy limit; the
attempt begins once the line has been silent for the gap, at entry, or later and no later than the busy limit elapses, with
attempts counted, the request frame built and DROP_DE asserted (R27, R28, R29, R141). The characters follow one another
without gaps on the line, each a start bit, eight data bits with the least significant first, and a stop bit (R24, R29).
The model's choices: a silence that has not reached the gap, or reaches it after the busy limit, changes nothing but the
clock (log entry 2), and entry into GUARD clears what an attempt left (log entry 21). -/
def Obligations.GuardSilenceBeginsAttempt : Prop :=
  (∀ (x : Txn) (s : State), ∃ g,
      g =
          { s with
            engine :=
              { s.engine with
                port := .guard, txn := some x, guardEntry := s.time.clock
                guardGap := s.config.active.segment.guardGap, busyLimit := s.config.active.segment.busyLimit
                deadline := none, endOfRequest := none, firstChar := none, rxBuffer := [], discard := none
                discardStart := none } } ∧
        enterGuard x s =
          if ctMicros s.rate g.engine.guardGap ≤ (s.time.clock - s.engine.lastActivity).toNat then beginAttempt x g
          else g) ∧
    (∀ (us silent since : Nat) (x : Txn) (i : SlotIx) (slot : Slot) (s : State), s.held = none →
      s.engine.port = .guard → s.engine.txn = some x → x.claimant = .host i → s.pool.slots[i] = some slot →
      silent = (s.time.clock + BitVec.ofNat 48 us - s.engine.lastActivity).toNat →
      since = (s.time.clock + BitVec.ofNat 48 us - s.engine.guardEntry).toNat →
      ctMicros s.rate s.engine.guardGap ≤ silent →
      since + ctMicros s.rate s.engine.guardGap ≤ silent + s.engine.busyLimit * 1000 →
      exec (.guardSilenceReached us) s =
        .next
          (addCount .dropTransactions (if slot.attempts = 0 then 1 else 0)
            { advance us s with
              pool :=
                { s.pool with
                  slots :=
                    s.pool.slots.set i.val (some { slot with attempts := slot.attempts + 1 }) i.isLt }
              engine :=
                { s.engine with
                  port := .sending, txFrame := requestFrame x, dropDE := true
                  txStart := some (s.time.clock + BitVec.ofNat 48 us) } })) ∧
    (∀ (us silent since : Nat) (x : Txn) (s : State), s.held = none → s.engine.port = .guard →
      s.engine.txn = some x → (∀ i, x.claimant ≠ .host i) →
      silent = (s.time.clock + BitVec.ofNat 48 us - s.engine.lastActivity).toNat →
      since = (s.time.clock + BitVec.ofNat 48 us - s.engine.guardEntry).toNat →
      ctMicros s.rate s.engine.guardGap ≤ silent →
      since + ctMicros s.rate s.engine.guardGap ≤ silent + s.engine.busyLimit * 1000 →
      exec (.guardSilenceReached us) s =
        .next
          (addCount .dropTransactions (if x.ownAttempts = 0 then 1 else 0)
            { advance us s with
              engine :=
                { s.engine with
                  port := .sending, txn := some { x with ownAttempts := x.ownAttempts + 1 }
                  txFrame := requestFrame x, dropDE := true
                  txStart := some (s.time.clock + BitVec.ofNat 48 us) } })) ∧
    (∀ (us silent since : Nat) (s : State), s.held = none → s.engine.port = .guard →
      silent = (s.time.clock + BitVec.ofNat 48 us - s.engine.lastActivity).toNat →
      since = (s.time.clock + BitVec.ofNat 48 us - s.engine.guardEntry).toNat →
      silent < ctMicros s.rate s.engine.guardGap ∨
        silent + s.engine.busyLimit * 1000 < since + ctMicros s.rate s.engine.guardGap →
      exec (.guardSilenceReached us) s = .next (advance us s)) ∧
    (∀ x : Txn,
      requestFrame x =
        withCheck
          ([0xC5#8, BitVec.ofNat 8 x.node.val, x.op.code, BitVec.ofNat 8 (x.space.val * 64 + (x.count - 1))] ++
            be16 x.address ++ if x.op = .write then bytesOf x.payload else [])) ∧
    (∀ b : Byte,
      charBits b =
        [false, b.getLsbD 0, b.getLsbD 1, b.getLsbD 2, b.getLsbD 3, b.getLsbD 4, b.getLsbD 5, b.getLsbD 6,
          b.getLsbD 7, true]) ∧
    (∀ (n k : Nat) (b : Byte) (start : Stamp) (s : State), s.engine.dropDE = true → s.engine.txStart = some start →
      s.engine.txFrame[n]? = some b → k < 10 →
      (10 * n + k) * 1000000 ≤ (s.time.clock - start).toNat * Config.bitRate s.rate →
      (s.time.clock - start).toNat * Config.bitRate s.rate < (10 * n + k + 1) * 1000000 →
      dropTxd s = (charBits b)[k]?) ∧
    (∀ s : State, s.engine.dropDE = false → dropTxd s = none)

/-- The end of the request frame: DROP_DE is released and the line's activity and the end-of-request stamp are set; a node-31
WRITE ends OK at once, any other attempt awaits its response until the response window of its NODE entry, or the granted
one, has passed, and sent-once of a host slot becomes true (R1, R29, R30). A SENDING tail left by a soft reset ends in
IDLE, or in isolation if an isolate waits (R48). Within SENDING the line's last activity is the end of the last own
character that has ended (R25). The model's choices: an end before the last character's changes nothing but the clock (log
entry 2), and sent-once is set for a READ too (log entry 13). -/
def Obligations.SendingEndsInAwaitingOrOk : Prop :=
  (∀ (us : Nat) (start : Stamp) (x : Txn) (n : NodeIx) (e : NodeEntry) (s : State), s.held = none →
      s.engine.port = .sending → s.engine.txn = some x → nodeIx? x.node = some n → s.config.active.node[n] = e →
      s.engine.txStart = some start →
      ctMicros s.rate s.engine.txFrame.length ≤ (s.time.clock + BitVec.ofNat 48 us - start).toNat →
      exec (.requestFrameSent us) s =
        .next
          (markSent x
            { advance us s with
              engine :=
                { s.engine with
                  port := .awaiting, lastActivity := s.time.clock + BitVec.ofNat 48 us, txFrame := []
                  txStart := none, dropDE := false, endOfRequest := some (s.time.clock + BitVec.ofNat 48 us)
                  deadline :=
                    some
                      (s.time.clock + BitVec.ofNat 48 us + ms (if e.present then e.window else x.window.getD 0))
                  firstChar := none, rxBuffer := [], discard := none, discardStart := none } })) ∧
    (∀ (us : Nat) (start : Stamp) (x : Txn) (s : State), s.held = none → s.engine.port = .sending →
      s.engine.txn = some x → x.node.val = 31 → s.engine.txStart = some start →
      ctMicros s.rate s.engine.txFrame.length ≤ (s.time.clock + BitVec.ofNat 48 us - start).toNat →
      exec (.requestFrameSent us) s =
        .next
          (settle
            (deliver x (.ok [])
              (markSent x
                { advance us s with
                  engine :=
                    { s.engine with
                      lastActivity := s.time.clock + BitVec.ofNat 48 us, txFrame := [], txStart := none
                      dropDE := false, endOfRequest := some (s.time.clock + BitVec.ofNat 48 us) } })))) ∧
    (∀ (x : Txn) (i : SlotIx) (slot : Slot) (s : State), x.claimant = .host i → s.pool.slots[i] = some slot →
      markSent x s =
        { s with
          pool :=
            { s.pool with slots := s.pool.slots.set i.val (some { slot with sentOnce := true }) i.isLt } }) ∧
    (∀ (x : Txn) (s : State), (∀ i, x.claimant ≠ .host i) → markSent x s = s) ∧
    (∀ (us : Nat) (start : Stamp) (s : State), s.held = none → s.engine.port = .sending → s.engine.txn = none →
      s.engine.pendingIsolate = none → s.engine.txStart = some start →
      ctMicros s.rate s.engine.txFrame.length ≤ (s.time.clock + BitVec.ofNat 48 us - start).toNat →
      exec (.sendingTailEnd us) s =
        .next
          (settle
            { advance us s with
              engine :=
                { s.engine with
                  port := .idle, lastActivity := s.time.clock + BitVec.ofNat 48 us, txFrame := [], txStart := none
                  dropDE := false } })) ∧
    (∀ (us : Nat) (start : Stamp) (tag : Tag) (s : State), s.held = none → s.engine.port = .sending →
      s.engine.txn = none → s.engine.pendingIsolate = some tag → s.engine.txStart = some start →
      ctMicros s.rate s.engine.txFrame.length ≤ (s.time.clock + BitVec.ofNat 48 us - start).toNat →
      ∃ u, exec (.sendingTailEnd us) s = .next (decideA u) ∧
        u.engine.port = .isolated ∧ u.engine.pendingIsolate = none ∧ u.engine.dropDE = false ∧
        u.engine.lastActivity = s.time.clock + BitVec.ofNat 48 us ∧ u.pool.urgent = [] ∧ u.pool.normal = [] ∧
        u.pool.bulk = [] ∧ u.calendar.dueList = [] ∧ u.monitor.probeList = [] ∧ u.config = s.config ∧
        u.notices = s.notices ∧ u.time = (advance us s).time ∧
        (u.trunk.upstream.getLast?).map UpEntry.item =
          some
            (.immediate
              { tag := BitVec.ofNat 8 tag.val, node := 0#8, status := .ok, detail := 0#8, source := .controller
                stamp := s.time.clock + BitVec.ofNat 48 us, body := [.raw [6#8]] })) ∧
    (∀ (us : Nat) (start : Stamp) (s : State), s.held = none → s.engine.port = .sending →
      s.engine.txStart = some start →
      (s.time.clock + BitVec.ofNat 48 us - start).toNat < ctMicros s.rate s.engine.txFrame.length →
      exec (.requestFrameSent us) s = .next (advance us s) ∧ exec (.sendingTailEnd us) s = .next (advance us s)) ∧
    (∀ (n : Nat) (start : Stamp) (s : State), s.engine.txStart = some start →
      (n ≤ ownCharsEnded s ↔
        n ≤ s.engine.txFrame.length ∧ ctMicros s.rate n ≤ (s.time.clock - start).toNat)) ∧
    (∀ (start : Stamp) (s : State), s.engine.port = .sending → s.engine.txStart = some start →
      s.lastActivity =
        if ownCharsEnded s = 0 then s.engine.lastActivity
        else start + BitVec.ofNat 48 (ctMicros s.rate (ownCharsEnded s))) ∧
    (∀ s : State, s.engine.port ≠ .sending → s.lastActivity = s.engine.lastActivity)

/-- What a character taken from the line does, by the state of the port: a stray character in IDLE, GUARD and JAMMED, nothing
in SENDING and ISOLATED, the start of a response in AWAITING, a byte of it in RECEIVING, and line activity alone once
collection has stopped (R25, R27, R28, R31, R32, R33, R41, R45). A character carries its data bits, least significant first,
and a framing error where its stop bit is low (R24, R25). A complete response passes the checks of R34 in their order, and
the first that fails, or the status byte, gives the result. The model's choices: a character with a framing error is stored
in RECEIVING before collection stops (log entry 13), and FRAMING prevails over what the same byte would fix or complete (log
entry 24). -/
def Obligations.CharactersAreTakenAndResponsesChecked : Prop :=
  ((∀ ch : LineChar,
       (∀ k, k < 8 → ch.data.getLsbD k = ch.levels.getLsbD (k + 1)) ∧
         (ch.framingError = true ↔ ch.levels.getLsbD 9 = false)) ∧
     (∀ buffer : List Byte,
       expectedLength buffer =
         if byteAt buffer 2 = 0x81#8 ∧ byteAt buffer 3 = 0#8 then 7 + 2 * (byteAt buffer 4).toNat else 7)) ∧
  ((∀ (us : Nat) (ch : LineChar) (s : State), s.held = none →
       s.engine.port = .idle ∨ s.engine.port = .guard ∨ s.engine.port = .jammed →
       exec (.strayCharacter us ch) s =
         .next
           (addCount .strayCharacters 1
             { advance us s with
               engine := { s.engine with lastActivity := s.time.clock + BitVec.ofNat 48 us } })) ∧
     (∀ (us : Nat) (ch : LineChar) (s : State), s.held = none →
       s.engine.port = .sending ∨ s.engine.port = .isolated →
       exec (.strayCharacter us ch) s = .next (advance us s)) ∧
     (∀ (us : Nat) (ch : LineChar) (s : State), s.held = none → s.engine.port = .awaiting →
       exec (.responseFirstCharacter us ch) s =
         .next
           { advance us s with
             engine :=
               { s.engine with
                 port := .receiving, deadline := none, firstChar := some (s.time.clock + BitVec.ofNat 48 us)
                 rxBuffer := s.engine.rxBuffer ++ [ch.data]
                 lastActivity := s.time.clock + BitVec.ofNat 48 us
                 discard := if ch.framingError then some .framing else s.engine.discard
                 discardStart :=
                   if ch.framingError then some (s.time.clock + BitVec.ofNat 48 us)
                   else s.engine.discardStart } }) ∧
     (∀ (us : Nat) (ch : LineChar) (x : Txn) (s v : State), s.held = none → s.engine.port = .receiving →
       s.engine.txn = some x → s.engine.discard = none →
       v =
         { advance us s with
           engine :=
             { s.engine with
               rxBuffer := s.engine.rxBuffer ++ [ch.data]
               lastActivity := s.time.clock + BitVec.ofNat 48 us } } →
       (ch.framingError = true →
           exec (.responseCharacter us ch) s =
             .next
               (decideA
                 { v with
                   engine := { v.engine with discard := some .framing, discardStart := some v.time.clock } })) ∧
         (ch.framingError = false → v.engine.rxBuffer.length < 5 →
           exec (.responseCharacter us ch) s = .next (decideA v)) ∧
         (ch.framingError = false → 5 ≤ v.engine.rxBuffer.length → 72 < expectedLength v.engine.rxBuffer →
           exec (.responseCharacter us ch) s =
             .next
               (decideA
                 { v with
                   engine := { v.engine with discard := some .badLength, discardStart := some v.time.clock } })) ∧
         (ch.framingError = false → 5 ≤ v.engine.rxBuffer.length → expectedLength v.engine.rxBuffer ≤ 72 →
           v.engine.rxBuffer.length < expectedLength v.engine.rxBuffer →
           exec (.responseCharacter us ch) s = .next (decideA v)) ∧
         (ch.framingError = false → 5 ≤ v.engine.rxBuffer.length → expectedLength v.engine.rxBuffer ≤ 72 →
           expectedLength v.engine.rxBuffer ≤ v.engine.rxBuffer.length →
           exec (.responseCharacter us ch) s =
             .next (settle (endResponse x (checkResponse x v.engine.rxBuffer) v)))) ∧
     (∀ (us : Nat) (ch : LineChar) (x : Txn) (s : State), s.held = none → s.engine.port = .receiving →
       s.engine.txn = some x → s.engine.discard.isSome = true →
       exec (.responseCharacter us ch) s =
         .next
           (decideA
             { advance us s with
               engine := { s.engine with lastActivity := s.time.clock + BitVec.ofNat 48 us } }))) ∧
  ((∀ (x : Txn) (start node echo status count : Byte) (rest : List Byte) (buffer : List Byte),
       buffer = start :: node :: echo :: status :: count :: rest →
       checkResponse x buffer =
         if start ≠ 0xC6#8 then .corrupt .badCheck
         else if node ≠ BitVec.ofNat 8 x.node.val then .corrupt .wrongNode
         else if echo ≠ (if x.op = .read then 0x81#8 else 0x82#8) then .corrupt .wrongOp
         else if x.op = .read ∧ status = 0#8 ∧ count.toNat ≠ x.count then .corrupt .badLength
         else if checkHolds buffer = false then .corrupt .badCheck
         else if status = 0#8 then .ok (wordsOf (rest.take (rest.length - 2)))
         else .exception status) ∧
     (∀ (x : Txn) (data : List Word) (s : State), endResponse x (.ok data) s = deliver x (.ok data) s) ∧
     (∀ (x : Txn) (code : Byte) (s : State), endResponse x (.exception code) s = deliver x (.exception code) s) ∧
     (∀ (x : Txn) (d : CorruptDetail) (s : State),
       endResponse x (.corrupt d) s = decideRetry x (.corrupt d) (addCount .corruptResponses 1 s)))

/-- The four events that end an attempt without a complete response, each counted once and followed by the retry decision,
and that decision: the transaction is kept while attempts are within the retry limit, its slot is not ABORT_PENDING and
no isolate is pending (R31, R32, R33, R35). An event before its instant changes nothing but the clock: the model's choice
of log entry 2. -/
def Obligations.AttemptsEndInRetryOrFinalOutcome : Prop :=
  (∀ (x : Txn) (result : DropResult) (s : State),
      (attemptsOf s x ≤ retryLimitOf s x → abortIsPending s x = false → s.engine.pendingIsolate = none →
          decideRetry x result s = enterGuard x (addCount .retries 1 s)) ∧
        (retryLimitOf s x < attemptsOf s x ∨ abortIsPending s x = true ∨ s.engine.pendingIsolate.isSome = true →
          decideRetry x result s = deliver x result s)) ∧
    (∀ (x : Txn) (s : State),
      (∀ n, x.claimant = .probe n → retryLimitOf s x = 0) ∧
        (∀ n, (∀ m, x.claimant ≠ .probe m) → nodeIx? x.node = some n →
          retryLimitOf s x =
            if (s.config.active.node[n]).present then (s.config.active.node[n]).retryLimit else 0)) ∧
    (∀ (us : Nat) (x : Txn) (deadline : Stamp) (s : State), s.held = none → s.engine.port = .awaiting →
      s.engine.txn = some x → s.engine.deadline = some deadline → deadline ≤ s.time.clock + BitVec.ofNat 48 us →
      exec (.responseDeadline us) s =
        .next (settle (decideRetry x .timeout (addCount .timeouts 1 (advance us s))))) ∧
    (∀ (us : Nat) (x : Txn) (s : State), s.held = none → s.engine.port = .receiving → s.engine.txn = some x →
      s.engine.discard = none →
      ctMicros s.rate 4 ≤ (s.time.clock + BitVec.ofNat 48 us - s.engine.lastActivity).toNat →
      exec (.responseTruncated us) s =
        .next (settle (decideRetry x (.corrupt .truncated) (addCount .corruptResponses 1 (advance us s))))) ∧
    (∀ (us : Nat) (x : Txn) (d : DiscardDetail) (s : State), s.held = none → s.engine.port = .receiving →
      s.engine.txn = some x → s.engine.discard = some d →
      (ctMicros s.rate s.engine.guardGap ≤ (s.time.clock + BitVec.ofNat 48 us - s.engine.lastActivity).toNat →
          exec (.discardSilenceReached us) s =
            .next
              (settle
                (decideRetry x (.corrupt (match d with | .framing => .framing | .badLength => .badLength))
                  (addCount .corruptResponses 1 (advance us s))))) ∧
        (∀ since, s.engine.discardStart = some since →
          s.engine.busyLimit * 1000 ≤ (s.time.clock + BitVec.ofNat 48 us - since).toNat →
          exec (.discardBusyLimit us) s =
            .next
              (settle
                (decideRetry x (.corrupt (match d with | .framing => .framing | .badLength => .badLength))
                  (addCount .corruptResponses 1 (advance us s)))))) ∧
    (∀ (us : Nat) (deadline : Stamp) (s : State), s.held = none → s.engine.port = .awaiting →
      s.engine.deadline = some deadline → s.time.clock + BitVec.ofNat 48 us < deadline →
      exec (.responseDeadline us) s = .next (advance us s))

/-- A final outcome is handed on in the order of R36: to the claimant's owner, a host slot with the reply status of R12 or
R13, the mirror with the poll's key, or the Node Monitor for a probe, whose claim is cleared and whose timer is armed if an
OFFLINE node failed again (R59); to the health record of a HOST's or a POLL's node with the latency of R37; then the engine
leaves the transaction for IDLE, or isolation takes effect if an isolate is pending (R43, R44). That what the attempt left
is cleared then is the model's inference of log entry 21. -/
def Obligations.FinalOutcomeIsHandedOnInOrder : Prop :=
  (∀ (x : Txn) (result : DropResult) (s : State), s.engine.pendingIsolate = none →
      ∃ v, v = deliverToMonitor x result (deliverToOwner x result s) ∧
        deliver x result s =
          { v with
            engine :=
              { v.engine with
                port := .idle, txn := none, deadline := none, endOfRequest := none, firstChar := none, rxBuffer := []
                discard := none, discardStart := none, txFrame := [], txStart := none, dropDE := false } }) ∧
    (∀ (x : Txn) (result : DropResult) (tag : Tag) (s : State), s.engine.pendingIsolate = some tag →
      ∃ v, v = deliverToMonitor x result (deliverToOwner x result s) ∧
        deliver x result s =
          answer (BitVec.ofNat 8 tag.val) 0#8 .ok 0#8 [.raw [6#8]]
            (flushPort .isolated
              { v with
                status := { v.status with indLine := false }
                engine :=
                  { v.engine with
                    port := .isolated, txn := none, deadline := none, endOfRequest := none, firstChar := none
                    rxBuffer := [], discard := none, discardStart := none, pendingIsolate := none, jamStart := none
                    txFrame := [], txStart := none, dropDE := false } })) ∧
    (∀ (x : Txn) (i : CellIx) (result : DropResult) (s : State), x.claimant = .poll i →
      deliverToOwner x result s =
        pollOutcome { node := x.node, space := x.space, address := x.address, count := x.count } result s) ∧
    (∀ (x : Txn) (n : NodeIx) (result : DropResult) (s : State), x.claimant = .probe n →
      (∃ v, v =
            applyOutcome n result (latency s)
              { s with
                monitor :=
                  { s.monitor with
                    health := s.monitor.health.set n.val { s.monitor.health[n] with claim := .none } n.isLt } } ∧
          ((s.monitor.health[n]).state = .offline → result = .timeout ∨ (∃ d, result = .corrupt d) →
            deliverToOwner x result s =
              { v with
                monitor :=
                  { v.monitor with
                    health :=
                      v.monitor.health.set n.val
                        { v.monitor.health[n] with
                          probeDue :=
                            some (s.time.clock + ms ((s.config.active.node[n]).probeUnits * 100)) } n.isLt } }) ∧
          ((s.monitor.health[n]).state ≠ .offline ∨ (∃ data, result = .ok data) ∨
              (∃ code, result = .exception code) →
            deliverToOwner x result s = v)) ∧
        deliverToMonitor x result s = s) ∧
    (∀ (sent first : Stamp) (s : State), s.engine.endOfRequest = some sent → s.engine.firstChar = some first →
      latency s = (first - sent).setWidth 32) ∧
    (∀ (x : Txn) (i : SlotIx) (slot : Slot) (result : DropResult) (s : State), x.claimant = .host i →
      s.pool.slots[i] = some slot → slot.state ≠ .abortPending →
      deliverToOwner x result s =
        match result with
        | .ok data => completeSlot i .ok 0#8 (if slot.op = .read then data else []) s
        | .exception code => completeSlot i .nodeException code [] s
        | .timeout => completeSlot i .timeout 0#8 [] s
        | .corrupt d => completeSlot i .corrupt d.code [] s) ∧
    (∀ (x : Txn) (i : SlotIx) (slot : Slot) (result : DropResult) (s : State), x.claimant = .host i →
      s.pool.slots[i] = some slot → slot.state = .abortPending →
      deliverToOwner x result s =
        completeSlot i (if slot.op = .write ∧ slot.sentOnce = true then .abortedLate else .aborted)
          (match result with
            | .ok _ => 1#8
            | .exception _ => 2#8
            | .timeout => 3#8
            | .corrupt _ => 4#8)
          [] s) ∧
    (∀ (x : Txn) (n : NodeIx) (result : DropResult) (s : State), (∀ m, x.claimant ≠ .probe m) →
      nodeIx? x.node = some n →
      deliverToMonitor x result s = applyOutcome n result (latency s) s) ∧
    (∀ (x : Txn) (result : DropResult) (s : State), x.node.val = 31 → (∀ m, x.claimant ≠ .probe m) →
      deliverToMonitor x result s = s)

/-- What an outcome does to a node, by its state: an answer makes it ONLINE with its latency recorded, and where it was OFFLINE
raises NODE_RECOVERED and removes its probe; a failure counts and makes it SUSPECT or, at the threshold, OFFLINE, with its
requests flushed, its cells FAILED, its polls off the due list, its timer armed and NODE_OFFLINE raised; ABSENT and DISABLED
nodes ignore both, and no other node's record changes (R18, R50, R52, R53, R54, R55, R73). -/
def Obligations.OutcomesMoveNodeHealth : Prop :=
  (∀ (n : NodeIx) (result : DropResult) (lat : Word32) (s : State),
      (s.monitor.health[n]).state = .absent ∨ (s.monitor.health[n]).state = .disabled →
      applyOutcome n result lat s = s) ∧
    (∀ (n m : NodeIx) (result : DropResult) (lat : Word32) (s : State), m ≠ n →
      (applyOutcome n result lat s).monitor.health[m] = s.monitor.health[m]) ∧
    (∀ (n : NodeIx) (result : DropResult) (lat : Word32) (h : Health) (s u : State), s.monitor.health[n] = h →
      h.state ≠ .absent → h.state ≠ .disabled → (∃ data, result = .ok data) ∨ (∃ code, result = .exception code) →
      u = applyOutcome n result lat s →
      u.monitor.health[n] =
          { state := .online, failures := 0, successCount := h.successCount + 1#32, failureCount := h.failureCount
            lastLatency := some lat
            maxLatency :=
              some
                (match h.maxLatency with
                  | none => lat
                  | some old => if old < lat then lat else old)
            offlineSince := if h.state = .offline then none else h.offlineSince
            probeDue := if h.state = .offline then none else h.probeDue
            claim := if h.state = .offline ∧ h.claim = .listed then .none else h.claim } ∧
        (h.state ≠ .offline →
          u = { s with monitor := { s.monitor with health := u.monitor.health } }) ∧
        (∀ since, h.state = .offline → h.offlineSince = some since → s.repeater = false →
          u =
              { s with
                monitor := { probeList := s.monitor.probeList.filter (fun m => m != n), health := u.monitor.health }
                notices :=
                  s.notices.takeRaise .nodeRecovered (some (nodeAddr n))
                    (BitVec.ofNat 16 (min 65535 ((s.time.clock - since).toNat / 1000))) s.time.clock
                status := { s.status with indNode := u.status.indNode } } ∧
            (u.status.indNode = true ↔ ∃ m : NodeIx, (u.monitor.health[m]).state = .offline))) ∧
    (∀ (n : NodeIx) (result : DropResult) (lat : Word32) (h : Health) (s u v : State), s.monitor.health[n] = h →
      h.state = .unknown ∨ h.state = .online ∨ h.state = .suspect →
      result = .timeout ∨ (∃ d, result = .corrupt d) → u = applyOutcome n result lat s →
      v = flush (fun slot => slot.node == nodeAddr n) .nodeOffline s →
      ((s.config.active.node[n]).threshold ≤ min 15 (h.failures + 1) →
          u.monitor.health[n] =
              { h with
                state := .offline, failures := min 15 (h.failures + 1), failureCount := h.failureCount + 1#32
                offlineSince := some s.time.clock
                probeDue := some (s.time.clock + ms ((s.config.active.node[n]).probeUnits * 100)) } ∧
            u.monitor.probeList = s.monitor.probeList ∧ u.pool = v.pool ∧ u.trunk = v.trunk ∧
            (∀ i : CellIx,
              u.calendar.cells[i] =
                if (s.config.active.poll[i]).used = true ∧ (s.config.active.poll[i]).node = nodeAddr n then
                  { s.calendar.cells[i] with state := .failed, limit := none }
                else s.calendar.cells[i]) ∧
            u.calendar =
              { s.calendar with
                cells := u.calendar.cells
                dueList :=
                  s.calendar.dueList.filter (fun i => (s.config.active.poll[i]).node != nodeAddr n) } ∧
            u.status = { s.status with indNode := true } ∧
            (s.repeater = false →
              u.notices =
                s.notices.takeRaise .nodeOffline (some (nodeAddr n))
                  (BitVec.ofNat 16
                    ((queueOrder s.pool).filter
                      (fun i => (s.pool.slots[i]).any (fun slot => slot.node == nodeAddr n))).length)
                  s.time.clock) ∧
            u.engine = s.engine ∧ u.config = s.config ∧ u.time = s.time) ∧
        (min 15 (h.failures + 1) < (s.config.active.node[n]).threshold →
          u =
            { s with
              monitor :=
                { s.monitor with
                  health :=
                    s.monitor.health.set n.val
                      { h with
                        state := .suspect, failures := min 15 (h.failures + 1)
                        failureCount := h.failureCount + 1#32 } n.isLt } })) ∧
    (∀ (n : NodeIx) (result : DropResult) (lat : Word32) (h : Health) (s : State), s.monitor.health[n] = h →
      h.state = .offline → result = .timeout ∨ (∃ d, result = .corrupt d) →
      applyOutcome n result lat s =
        { s with
          monitor :=
            { s.monitor with
              health :=
                s.monitor.health.set n.val
                  { h with failures := min 15 (h.failures + 1), failureCount := h.failureCount + 1#32 } n.isLt } })

/-- A poll's final outcome is counted and reaches the cell of the used entry that carries its key, if its node is in service:
OK makes the cell FRESH with the data, the instant and a limit of stale factor times period times base cycle, any other
outcome makes it FAILED; no other cell changes (R74 to R77). -/
def Obligations.PollOutcomeReachesCellOfItsKey : Prop :=
  ∀ (key : PollKey) (result : DropResult) (s : State),
    (∀ c, (pollOutcome key result s).counter c = if c = .pollsDone then s.counter c + 1#32 else s.counter c) ∧
      (entryOfKey s.config.active key = none ∨ healthOf s key.node = .disabled ∨ healthOf s key.node = .absent →
        (pollOutcome key result s).calendar = s.calendar) ∧
      (∀ i e c, entryOfKey s.config.active key = some i → healthOf s key.node ≠ .disabled →
        healthOf s key.node ≠ .absent → s.config.active.poll[i] = e → s.calendar.cells[i] = c →
        (pollOutcome key result s).calendar.cells =
          s.calendar.cells.set i.val
            (match result with
              | .ok data =>
                { c with
                  state := .fresh, values := some data, updateStamp := some s.time.clock
                  limit := some (s.time.clock + ms (e.staleFactor * e.period * s.calendar.baseCycle))
                  updateCount := c.updateCount + 1#16 }
              | .exception code =>
                { c with state := .failed, limit := none, lastFailure := some (.nodeException, code) }
              | .timeout => { c with state := .failed, limit := none, lastFailure := some (.timeout, 0#8) }
              | .corrupt d =>
                { c with state := .failed, limit := none, lastFailure := some (.corrupt, d.code) })
            i.isLt)

/-- The busy limit in GUARD makes the port JAMMED: the granted transaction ends without an outcome, an ACTIVE slot with
LINE_FAULT, an ABORT_PENDING one with the status of R13, a poll dropped, a probe dropped with its timer armed if the node is
OFFLINE, before the flush by port, which empties every queue and list; the jam start, LINE_FAULT with the number of slots,
the indicator and the counter follow (R11, R13, R19, R40, R58). The busy limit of silence in JAMMED restores the port with
LINE_RESTORED (R41). A busy limit that has not elapsed, or that elapses after the silence has reached the guard gap (R28),
changes nothing but the clock: the model's choice of log entry 2. -/
def Obligations.BusyLineJamsPortAndSilenceRestoresIt : Prop :=
  (∀ (us silent since : Nat) (x : Txn) (s v w : State), s.held = none → s.repeater = false →
      s.engine.port = .guard → s.engine.txn = some x →
      silent = (s.time.clock + BitVec.ofNat 48 us - s.engine.lastActivity).toNat →
      since = (s.time.clock + BitVec.ofNat 48 us - s.engine.guardEntry).toNat →
      s.engine.busyLimit * 1000 ≤ since →
      silent + s.engine.busyLimit * 1000 ≤ since + ctMicros s.rate s.engine.guardGap →
      v =
        (match x.claimant with
          | .host i =>
            match s.pool.slots[i] with
            | some slot =>
              completeSlot i
                (if slot.state = .abortPending then
                  if slot.op = .write ∧ slot.sentOnce = true then .abortedLate else .aborted
                else .lineFault)
                0#8 [] (advance us s)
            | none => advance us s
          | .poll _ => advance us s
          | .probe n =>
            { advance us s with
              monitor :=
                { s.monitor with
                  health :=
                    s.monitor.health.set n.val
                      ((s.monitor.health[n]).claimDropped (s.time.clock + BitVec.ofNat 48 us)
                        (s.config.active.node[n]).probeUnits) n.isLt } }) →
      w = flush (fun _ => true) .lineFault v →
      ∃ u, exec (.busyLimitInGuard us) s = .next (decideA u) ∧
        u.engine.port = .jammed ∧ u.engine.txn = none ∧
        u.engine.jamStart = some (s.time.clock + BitVec.ofNat 48 us) ∧
        u.engine.busyLimit = s.config.active.segment.busyLimit ∧ u.status.indLine = true ∧
        (∀ c, u.counter c = if c = .lineFaults then s.counter c + 1#32 else s.counter c) ∧
        u.pool = w.pool ∧ u.trunk = w.trunk ∧ u.calendar = { w.calendar with dueList := [] } ∧
        u.pool.urgent = [] ∧ u.pool.normal = [] ∧ u.pool.bulk = [] ∧ u.monitor.probeList = [] ∧
        (∀ n : NodeIx,
          u.monitor.health[n] =
            if n ∈ s.monitor.probeList then
              (v.monitor.health[n]).claimDropped (s.time.clock + BitVec.ofNat 48 us)
                (s.config.active.node[n]).probeUnits
            else v.monitor.health[n]) ∧
        u.notices =
          s.notices.takeRaise .lineFault none
            (BitVec.ofNat 16
              (((queueOrder s.pool).filter (fun j => (s.pool.slots[j]).isSome)).length +
                match x.claimant with
                | .host i => if (s.pool.slots[i]).any (fun slot => slot.state != .abortPending) then 1 else 0
                | _ => 0))
            (s.time.clock + BitVec.ofNat 48 us) ∧
        u.config = s.config ∧ u.time = (advance us s).time) ∧
    (∀ (us silent since : Nat) (s : State), s.held = none → s.engine.port = .guard →
      silent = (s.time.clock + BitVec.ofNat 48 us - s.engine.lastActivity).toNat →
      since = (s.time.clock + BitVec.ofNat 48 us - s.engine.guardEntry).toNat →
      since < s.engine.busyLimit * 1000 ∨
        since + ctMicros s.rate s.engine.guardGap < silent + s.engine.busyLimit * 1000 →
      exec (.busyLimitInGuard us) s = .next (advance us s)) ∧
    (∀ (us : Nat) (since : Stamp) (s : State), s.held = none → s.engine.port = .jammed →
      s.engine.jamStart = some since →
      s.engine.busyLimit * 1000 ≤ (s.time.clock + BitVec.ofNat 48 us - s.engine.lastActivity).toNat →
      exec (.jamCleared us) s =
        .next
          (settle
            (raise .lineRestored none
              (BitVec.ofNat 16 (min 65535 ((s.time.clock + BitVec.ofNat 48 us - since).toNat / 1000)))
              { advance us s with
                status := { s.status with indLine := false }
                engine := { s.engine with port := .idle, jamStart := none } })))

/-- A flush completes exactly the waiting slots of its scope, with its status, in queue order, and leaves the rest waiting in
their order (R5, R17). -/
def Obligations.FlushCompletesItsScopeInQueueOrder : Prop :=
  ∀ (p : Slot → Bool) (status : Status) (s : State),
    (flush p status s).pool.urgent = s.pool.urgent.filter (fun i => !(s.pool.slots[i]).all p) ∧
      (flush p status s).pool.normal = s.pool.normal.filter (fun i => !(s.pool.slots[i]).all p) ∧
      (flush p status s).pool.bulk = s.pool.bulk.filter (fun i => !(s.pool.slots[i]).all p) ∧
      (flush p status s).pool.credit = s.pool.credit ∧
      (flush p status s).trunk =
        { s.trunk with
          upstream :=
            s.trunk.upstream ++
              ((queueOrder s.pool).filter (fun i => (s.pool.slots[i]).any p)).map
                (fun i => { item := .slot i, frame := none }) } ∧
      (∀ i : SlotIx, (flush p status s).pool.slots[i] =
        if i ∈ (queueOrder s.pool).filter (fun i => (s.pool.slots[i]).any p) then
          (s.pool.slots[i]).map fun slot =>
            { slot with
              state := .replying
              outcome :=
                some
                  { status := status, detail := 0#8, attempts := slot.attempts, stamp := s.time.clock
                    data := [] } }
        else s.pool.slots[i])

/-! ### The controller's timers (chapters 3, 4, 6, 9) -/

/-- A base-cycle boundary with no commit pending: the leftovers are counted in their cells, in "polls missed" and in
CYCLE_OVERRUN, the counter increases, the next boundary is spaced from this one's instant, and the new due list holds
the entries that are due and in service (R69, R70, R71). A boundary before its instant changes nothing but the clock:
the model's choice of log entry 2. -/
def Obligations.BoundaryAccountsLeftoversAndFormsDueList : Prop :=
  (∀ (us : Nat) (s : State), s.held = none → s.repeater = false → s.config.session.heldTag = none →
      s.calendar.nextBoundary ≤ s.time.clock + BitVec.ofNat 48 us →
      ∃ u, exec (.baseCycleBoundary us) s = .next (settle u) ∧
        u.calendar.counter = s.calendar.counter + 1#32 ∧
        u.calendar.baseCycle = s.config.active.segment.baseCycle ∧
        u.calendar.nextBoundary = s.calendar.nextBoundary + ms s.config.active.segment.baseCycle ∧
        u.calendar.dueList =
          (if s.engine.port = .jammed ∨ s.engine.port = .isolated then []
          else
            (List.finRange 64).filter fun i =>
              (s.config.active.poll[i]).used &&
                decide
                  ((s.calendar.counter + 1#32).toNat % (s.config.active.poll[i]).period =
                    (s.config.active.poll[i]).phase) &&
                (healthOf s (s.config.active.poll[i]).node).inService) ∧
        (∀ i : CellIx, i ∉ s.calendar.dueList → u.calendar.cells[i] = s.calendar.cells[i]) ∧
        (∀ i : CellIx, i ∈ s.calendar.dueList → s.calendar.dueList.Nodup →
          u.calendar.cells[i] =
            { s.calendar.cells[i] with missCount := min 255 ((s.calendar.cells[i]).missCount + 1) }) ∧
        (∀ c, u.counter c =
          if c = .pollsMissed then s.counter c + BitVec.ofNat 32 s.calendar.dueList.length else s.counter c) ∧
        u.notices =
          (if s.calendar.dueList = [] then s.notices
          else
            s.notices.takeRaise .cycleOverrun none (BitVec.ofNat 16 s.calendar.dueList.length)
              (s.time.clock + BitVec.ofNat 48 us)) ∧
        u.pool = s.pool ∧ u.engine = s.engine ∧ u.monitor = s.monitor ∧ u.config = s.config ∧ u.trunk = s.trunk ∧
        u.time = (advance us s).time) ∧
    (∀ (us : Nat) (s : State), s.held = none → s.time.clock + BitVec.ofNat 48 us < s.calendar.nextBoundary →
      exec (.baseCycleBoundary us) s = .next (advance us s))

/-- A boundary with a commit pending applies it: SHADOW becomes ACTIVE, the generation increases, each node's record follows
its present field, the requests that wait for a node made ABSENT are flushed NODE_ABSENT and its probe leaves the list, the
mirror is rebuilt by key after the leftovers are counted, the COMMIT is answered OK in its reserved place with the new
generation, CONFIG_APPLIED is raised, the session is CLOSED, and the due list is formed from the new table (R64, R69, R70,
R71, R122, R123). The rebuild: each cell of the new table is the old cell of its key, or EMPTY, and a FRESH cell carried
over has its limit computed afresh or, past it, is STALE (R83, R84). -/
def Obligations.BoundaryAppliesPendingCommit : Prop :=
  (∀ (us : Nat) (id : Byte) (tag : Tag) (g : Word32) (now : Stamp) (s : State), s.held = none → s.repeater = false →
     PoolConsistent s → MonitorConsistent s → s.config.session = .commitPending id tag →
     now = s.time.clock + BitVec.ofNat 48 us → s.calendar.nextBoundary ≤ now →
     g = (if s.config.generation = 0xFFFFFFFF#32 then 1#32 else s.config.generation + 1#32) →
     ∃ u w, exec (.baseCycleBoundary us) s = .next (settle u) ∧
       u.config =
         { active := s.config.shadow, shadow := s.config.shadow, session := .closed, lastId := s.config.lastId
           generation := g } ∧
       (∀ n : NodeIx,
         u.monitor.health[n] =
           match (s.config.active.node[n]).present, (s.config.shadow.node[n]).present with
           | false, false => s.monitor.health[n]
           | true, true => s.monitor.health[n]
           | false, true => Health.cleared .unknown
           | true, false => Health.cleared .absent) ∧
       u.monitor.probeList =
         s.monitor.probeList.filter (fun n => !nodeRemoved s.config.active s.config.shadow n) ∧
       (u.status.indNode = true ↔ ∃ n : NodeIx, (u.monitor.health[n]).state = .offline) ∧
       (∀ i : SlotIx,
         u.pool.slots[i] =
           if i ∈ queueOrder s.pool then
             (s.pool.slots[i]).map fun slot =>
               if slotRemoved s.config.active s.config.shadow slot then
                 { slot with
                   state := .replying
                   outcome :=
                     some { status := .nodeAbsent, detail := 0#8, attempts := slot.attempts, stamp := now, data := [] } }
               else slot
           else s.pool.slots[i]) ∧
       (∀ cls : Machine.Class,
         u.pool.queueOf cls =
           (s.pool.queueOf cls).filter fun i =>
             !(s.pool.slots[i]).any (slotRemoved s.config.active s.config.shadow)) ∧
       u.trunk =
         { s.trunk with
           upstream :=
             s.trunk.upstream ++
               (((List.finRange 30).filter (nodeRemoved s.config.active s.config.shadow)).flatMap fun n =>
                 ((queueOrder s.pool).filter fun i =>
                   (s.pool.slots[i]).any (fun slot => slot.node == nodeAddr n)).map
                   fun i => { item := .slot i, frame := none }) ++
               [{ item :=
                    .immediate
                      { tag := BitVec.ofNat 8 tag.val, node := 0#8, status := .ok, detail := 0#8
                        source := .controller, stamp := now, body := [.raw (be32 g)] }
                  frame := none }] } ∧
       (∀ k : CellIx,
         w.calendar.cells[k] =
           if k ∈ s.calendar.dueList then
             { s.calendar.cells[k] with missCount := min 255 ((s.calendar.cells[k]).missCount + 1) }
           else s.calendar.cells[k]) ∧
       w.config.active = s.config.shadow ∧ w.time.clock = now ∧
       u.calendar.cells = (rebuildMirror s.config.active w).calendar.cells ∧
       u.calendar.baseCycle = s.config.shadow.segment.baseCycle ∧ u.calendar.counter = s.calendar.counter + 1#32 ∧
       u.calendar.nextBoundary = s.calendar.nextBoundary + ms s.config.shadow.segment.baseCycle ∧
       u.calendar.dueList =
         (if s.engine.port = .jammed ∨ s.engine.port = .isolated then []
         else
           (List.finRange 64).filter fun i =>
             (s.config.shadow.poll[i]).used &&
               decide
                 ((s.calendar.counter + 1#32).toNat % (s.config.shadow.poll[i]).period =
                   (s.config.shadow.poll[i]).phase) &&
               (healthOf u (s.config.shadow.poll[i]).node).inService) ∧
       (∃ q,
         q =
             (if s.calendar.dueList = [] then s.notices
             else s.notices.takeRaise .cycleOverrun none (BitVec.ofNat 16 s.calendar.dueList.length) now) ∧
           u.notices = q.takeRaise .configApplied none (g.setWidth 16) now) ∧
       (∀ c,
         u.counter c =
           if c = .pollsMissed then s.counter c + BitVec.ofNat 32 s.calendar.dueList.length
           else if c = .immediateReplies then s.counter c + 1#32
           else s.counter c) ∧
       u.engine = s.engine ∧ u.time = (advance us s).time) ∧
  ((∀ (old : Tables) (j : CellIx) (s : State),
       (s.config.active.poll[j]).used = false ∨ entryOfKey old (s.config.active.poll[j]).key = none →
       (rebuildMirror old s).calendar.cells[j] =
         { state := .empty, values := none, updateStamp := none, limit := none, updateCount := 0#16, missCount := 0
           lastFailure := none }) ∧
     (∀ (old : Tables) (j k : CellIx) (e : PollEntry) (s : State), s.config.active.poll[j] = e → e.used = true →
       entryOfKey old e.key = some k →
       ((s.calendar.cells[k]).state ≠ .fresh →
           (rebuildMirror old s).calendar.cells[j] = s.calendar.cells[k]) ∧
         (∀ stamp, (s.calendar.cells[k]).state = .fresh → (s.calendar.cells[k]).updateStamp = some stamp →
           (rebuildMirror old s).calendar.cells[j] =
             if ms (e.staleFactor * e.period * s.config.active.segment.baseCycle) < s.time.clock - stamp then
               { s.calendar.cells[k] with state := .stale, limit := none }
             else
               { s.calendar.cells[k] with
                 limit := some (stamp + ms (e.staleFactor * e.period * s.config.active.segment.baseCycle)) })) ∧
     (∀ (b : Tables) (key : PollKey) (k : CellIx),
       entryOfKey b key = some k →
         (b.poll[k]).used = true ∧ (b.poll[k]).node = key.node ∧ (b.poll[k]).space = key.space ∧
           (b.poll[k]).address = key.address ∧ (b.poll[k]).count = key.count))

/-- The four expiries at their instants: a FRESH cell past its limit becomes STALE, a probe timer lists its node's probe or,
with the port out of service, is armed again, a session in OPEN closes with its edits lost and SESSION_EXPIRED, and the
IN_FLIGHT notice is offered again (R56, R77, R114, R163). A freshness expiry before its instant changes nothing but the
clock: the model's choice of log entry 2. -/
def Obligations.TimersExpireAtTheirInstants : Prop :=
  (∀ (us : Nat) (i : CellIx) (limit : Stamp) (s : State), s.held = none → (s.calendar.cells[i]).state = .fresh →
      (s.calendar.cells[i]).limit = some limit →
      exec (.freshnessExpiry us i) s =
        .next
          (if limit < s.time.clock + BitVec.ofNat 48 us then
            { advance us s with
              calendar :=
                { s.calendar with
                  cells :=
                    s.calendar.cells.set i.val { s.calendar.cells[i] with state := .stale, limit := none } i.isLt } }
          else advance us s)) ∧
    (∀ (us : Nat) (n : NodeIx) (due : Stamp) (s : State), s.held = none → (s.monitor.health[n]).probeDue = some due →
      due ≤ s.time.clock + BitVec.ofNat 48 us →
      (s.engine.port ≠ .jammed → s.engine.port ≠ .isolated →
          exec (.probeTimerExpiry us n) s =
            .next
              (settle
                { advance us s with
                  monitor :=
                    { probeList := s.monitor.probeList ++ [n]
                      health :=
                        s.monitor.health.set n.val
                          { s.monitor.health[n] with claim := .listed, probeDue := none } n.isLt } })) ∧
        (s.engine.port = .jammed ∨ s.engine.port = .isolated →
          exec (.probeTimerExpiry us n) s =
            .next
              { advance us s with
                monitor :=
                  { s.monitor with
                    health :=
                      s.monitor.health.set n.val
                        { s.monitor.health[n] with
                          probeDue :=
                            some
                              (s.time.clock + BitVec.ofNat 48 us +
                                ms ((s.config.active.node[n]).probeUnits * 100)) } n.isLt } })) ∧
    (∀ (us : Nat) (id : Byte) (expiry : Stamp) (s : State), s.held = none → s.config.session = .opened id expiry →
      expiry ≤ s.time.clock + BitVec.ofNat 48 us →
      exec (.sessionTimerExpiry us) s =
        .next
          (decideA
            (raise .sessionExpired none (id.setWidth 16)
              { advance us s with
                config := { s.config with shadow := s.config.active, session := .closed } }))) ∧
    (∀ (us : Nat) (expiry : Stamp) (s : State), s.held = none → s.notices.resend = some expiry →
      expiry ≤ s.time.clock + BitVec.ofNat 48 us →
      exec (.noticeResendExpiry us) s =
        .next
          (decideA { advance us s with notices := { s.notices with resend := none, resendDue := true } }))

/-! ### Notices (chapter 9) -/

/-- A raise is discarded, merged, made into a new record, or decided by R159, in that order; what gives way at a full queue is
recorded as a loss (R158, R159, R160). -/
def Obligations.RaisesMergeMakeOrGiveWay : Prop :=
  (∀ (kind : NoticeKind) (node : Option NodeAddr) (detail : Word) (now : Stamp) (q : NoticeQueue),
      q.mask.getLsbD kind.code = true → q.takeRaise kind node detail now = q) ∧
    (∀ (kind : NoticeKind) (node : Option NodeAddr) (detail : Word) (now : Stamp) (before after : List NoticeRecord)
      (r : NoticeRecord) (q : NoticeQueue), q.mask.getLsbD kind.code = false →
      q.ordinary = before ++ r :: after → r.flight = none → r.kind = kind → r.node = node →
      before.all (fun x => !(x.flight.isNone && x.kind == kind && x.node == node)) = true →
      q.takeRaise kind node detail now =
        { q with
          ordinary :=
            before ++ { r with detail := detail, last := now, repeats := min 255 (r.repeats + 1) } :: after }) ∧
    (∀ (kind : NoticeKind) (node : Option NodeAddr) (detail : Word) (now : Stamp) (q : NoticeQueue),
      q.mask.getLsbD kind.code = false →
      q.ordinary.all (fun x => !(x.flight.isNone && x.kind == kind && x.node == node)) = true →
      (q.ordinary.length < 24 →
          q.takeRaise kind node detail now =
            { q with
              ordinary :=
                q.ordinary ++
                  [{ kind := kind, node := node, detail := detail, first := now, last := now, repeats := 1
                     flight := none }] }) ∧
        (∀ worst, 24 ≤ q.ordinary.length → bottomUnsentKind q.ordinary = some worst → worst.code ≤ kind.code →
          q.takeRaise kind node detail now = q.recordLoss kind now) ∧
        (∀ (worst : NoticeKind) (before after : List NoticeRecord) (r : NoticeRecord), 24 ≤ q.ordinary.length →
          bottomUnsentKind q.ordinary = some worst → kind.code < worst.code →
          q.ordinary = before ++ r :: after → r.flight = none → r.kind = worst →
          after.all (fun x => !(x.flight.isNone && x.kind == worst)) = true →
          q.takeRaise kind node detail now =
            NoticeQueue.recordLoss worst now
              { q with
                ordinary :=
                  before ++ after ++
                    [{ kind := kind, node := node, detail := detail, first := now, last := now, repeats := 1
                       flight := none }] })) ∧
    (∀ (kind : NoticeKind) (now : Stamp) (q : NoticeQueue),
      (q.loss = none →
          q.recordLoss kind now =
            { q with
              loss :=
                some
                  { kind := .noticesLost, node := none, detail := BitVec.ofNat 16 kind.code, first := now, last := now
                    repeats := 1, flight := none } }) ∧
        (∀ r, q.loss = some r → r.flight = none →
          q.recordLoss kind now =
            { q with
              loss :=
                some
                  { r with
                    detail := BitVec.ofNat 16 kind.code, last := now, repeats := min 255 (r.repeats + 1) } }) ∧
        (∀ r, q.loss = some r → r.flight.isSome = true →
          q.recordLoss kind now =
            { q with
              heldLoss :=
                some
                  (match q.heldLoss with
                    | none => { count := 1, kind := kind, first := now, last := now }
                    | some h => { h with count := min 255 (h.count + 1), kind := kind, last := now }) }))

/-! ### Laws that every step keeps -/

/-- Every step keeps each port state with its transaction, its deadline, DROP_DE, the frame under transmission and IND_LINE
(R26, R29, R176). -/
def Obligations.EveryStepKeepsPortConsistent : Prop :=
  ∀ s u : State, PortConsistent s → step s = .next u → PortConsistent u

/-- Every step keeps the queues and lists empty while the port is JAMMED or ISOLATED (R17, R41, R45, R72). -/
def Obligations.EveryStepKeepsOutOfServicePortClear : Prop :=
  ∀ s u : State, NoClaimOutOfService s → step s = .next u → NoClaimOutOfService u

/-- Every step keeps the relay queues within 8 frames, the ordinary notice records within 24, the immediate part within 16
places, and the slots of NORMAL and BULK requests within 28 (R2, R90, R146, R148, R157). -/
def Obligations.EveryStepKeepsCapacities : Prop :=
  (∀ s u : State, QueuesWithinCapacity s → step s = .next u → QueuesWithinCapacity u) ∧
    (∀ s u : State, UrgentSlotsReserved s → step s = .next u → UrgentSlotsReserved u)

/-- Every step keeps at most one notice IN_FLIGHT, with the resend timer armed or expired only for it (R157, R163). -/
def Obligations.EveryStepKeepsOneNoticeInFlight : Prop :=
  ∀ s u : State, OneNoticeInFlight s → step s = .next u → OneNoticeInFlight u

/-- Every step keeps the request pool in agreement with its queues, the Upstream Queue, the drop engine and the tag map: a
slot in its class queue exactly while QUEUED, one reply entry for each REPLYING slot, the ACTIVE or ABORT_PENDING slot the
engine's transaction, and no tag with two holders. So at most one slot is ACTIVE or ABORT_PENDING, and the slot part holds
at most 32 entries (R1, R2, R4, R5, R20, R26, R149). -/
def Obligations.EveryStepKeepsPoolConsistent : Prop :=
  (∀ s u : State, PoolConsistent s → step s = .next u → PoolConsistent u) ∧
    (∀ s : State, PoolConsistent s →
      countState s .active + countState s .abortPending ≤ 1 ∧
        s.trunk.upstream.countP (fun e => !e.isImmediate) ≤ 32)

/-- Every step keeps the Node Monitor in agreement with the tables, its indicator, the probe list and the drop engine: a node
ABSENT exactly while its entry is not present, offline-since exactly while OFFLINE, each LISTED claim once on the probe
list, an ACTIVE claim the engine's transaction, and an armed timer or a claim for each OFFLINE node; and the due list with
each entry once, of a node in service (R26, R49, R50, R55 to R57, R71, R72, R176). -/
def Obligations.EveryStepKeepsMonitorConsistent : Prop :=
  ∀ s u : State, MonitorConsistent s → step s = .next u → MonitorConsistent u

/-- Every step keeps the SEGMENT entry of both banks in its ranges and the bulk-credit counter within 16 (R8, R110, R111). -/
def Obligations.EveryStepKeepsSegmentInRange : Prop :=
  ∀ s u : State, SegmentInRange s → step s = .next u → SegmentInRange u

/-- The reset state meets every law that the steps keep. -/
def Obligations.ResetMeetsEveryLaw : Prop :=
  PortConsistent State.reset ∧ NoClaimOutOfService State.reset ∧ QueuesWithinCapacity State.reset ∧
    UrgentSlotsReserved State.reset ∧ OneNoticeInFlight State.reset ∧ PoolConsistent State.reset ∧
    MonitorConsistent State.reset ∧ SegmentInRange State.reset
end

