-- ==== Sys2Proof/Laws/State.lean ====
section
/-! SUPPORT. What each update of the state keeps, true by unfolding: the fields an update does not name. -/

namespace Sys2Proof.Machine

/-! ### Time, counters and indicators -/

@[simp] theorem advance_keeps (us : Nat) (s : State) :
    (advance us s).segment = s.segment ∧ (advance us s).rate = s.rate ∧ (advance us s).held = s.held ∧
    (advance us s).status = s.status ∧ (advance us s).pool = s.pool ∧ (advance us s).engine = s.engine ∧
    (advance us s).monitor = s.monitor ∧ (advance us s).calendar = s.calendar ∧ (advance us s).config = s.config ∧
    (advance us s).trunk = s.trunk ∧ (advance us s).notices = s.notices ∧ (advance us s).pending = s.pending := by
  and_intros <;> rfl

@[simp] theorem addCount_keeps (c : Counter) (n : Nat) (s : State) :
    (addCount c n s).segment = s.segment ∧ (addCount c n s).rate = s.rate ∧ (addCount c n s).held = s.held ∧
    (addCount c n s).time = s.time ∧ (addCount c n s).pool = s.pool ∧ (addCount c n s).engine = s.engine ∧
    (addCount c n s).monitor = s.monitor ∧ (addCount c n s).calendar = s.calendar ∧
    (addCount c n s).config = s.config ∧ (addCount c n s).trunk = s.trunk ∧ (addCount c n s).notices = s.notices ∧
    (addCount c n s).pending = s.pending := by
  and_intros <;> rfl

@[simp] theorem bump_keeps (c : Counter) (s : State) :
    (bump c s).segment = s.segment ∧ (bump c s).rate = s.rate ∧ (bump c s).held = s.held ∧
    (bump c s).time = s.time ∧ (bump c s).pool = s.pool ∧ (bump c s).engine = s.engine ∧
    (bump c s).monitor = s.monitor ∧ (bump c s).calendar = s.calendar ∧ (bump c s).config = s.config ∧
    (bump c s).trunk = s.trunk ∧ (bump c s).notices = s.notices ∧ (bump c s).pending = s.pending := by
  and_intros <;> rfl

@[simp] theorem setLineIndicator_keeps (shows : Bool) (s : State) :
    (setLineIndicator shows s).segment = s.segment ∧ (setLineIndicator shows s).rate = s.rate ∧
    (setLineIndicator shows s).held = s.held ∧ (setLineIndicator shows s).time = s.time ∧
    (setLineIndicator shows s).pool = s.pool ∧ (setLineIndicator shows s).engine = s.engine ∧
    (setLineIndicator shows s).monitor = s.monitor ∧ (setLineIndicator shows s).calendar = s.calendar ∧
    (setLineIndicator shows s).config = s.config ∧ (setLineIndicator shows s).trunk = s.trunk ∧
    (setLineIndicator shows s).notices = s.notices ∧ (setLineIndicator shows s).pending = s.pending := by
  and_intros <;> rfl

@[simp] theorem evalNodeIndicator_keeps (s : State) :
    (evalNodeIndicator s).segment = s.segment ∧ (evalNodeIndicator s).rate = s.rate ∧
    (evalNodeIndicator s).held = s.held ∧ (evalNodeIndicator s).time = s.time ∧
    (evalNodeIndicator s).pool = s.pool ∧ (evalNodeIndicator s).engine = s.engine ∧
    (evalNodeIndicator s).monitor = s.monitor ∧ (evalNodeIndicator s).calendar = s.calendar ∧
    (evalNodeIndicator s).config = s.config ∧ (evalNodeIndicator s).trunk = s.trunk ∧
    (evalNodeIndicator s).notices = s.notices ∧ (evalNodeIndicator s).pending = s.pending := by
  and_intros <;> rfl

@[simp] theorem capture_keeps (clear : Bool) (s : State) :
    (capture clear s).segment = s.segment ∧ (capture clear s).rate = s.rate ∧ (capture clear s).held = s.held ∧
    (capture clear s).time = s.time ∧ (capture clear s).pool = s.pool ∧ (capture clear s).engine = s.engine ∧
    (capture clear s).monitor = s.monitor ∧ (capture clear s).calendar = s.calendar ∧
    (capture clear s).config = s.config ∧ (capture clear s).trunk = s.trunk ∧
    (capture clear s).notices = s.notices ∧ (capture clear s).pending = s.pending := by
  and_intros <;> rfl

@[simp] theorem setEpoch_keeps (t : Arrival) (f : ManageFrame) (s : State) :
    (setEpoch t f s).segment = s.segment ∧ (setEpoch t f s).rate = s.rate ∧ (setEpoch t f s).held = s.held ∧
    (setEpoch t f s).status = s.status ∧ (setEpoch t f s).pool = s.pool ∧ (setEpoch t f s).engine = s.engine ∧
    (setEpoch t f s).monitor = s.monitor ∧ (setEpoch t f s).calendar = s.calendar ∧
    (setEpoch t f s).config = s.config ∧ (setEpoch t f s).trunk = s.trunk ∧ (setEpoch t f s).notices = s.notices ∧
    (setEpoch t f s).pending = s.pending := by
  and_intros <;> rfl

/-! ### Mirror and calendar -/

@[simp] theorem modifyCell_keeps (i : CellIx) (f : Cell → Cell) (s : State) :
    (modifyCell i f s).segment = s.segment ∧ (modifyCell i f s).rate = s.rate ∧ (modifyCell i f s).held = s.held ∧
    (modifyCell i f s).time = s.time ∧ (modifyCell i f s).status = s.status ∧ (modifyCell i f s).pool = s.pool ∧
    (modifyCell i f s).engine = s.engine ∧ (modifyCell i f s).monitor = s.monitor ∧
    (modifyCell i f s).config = s.config ∧ (modifyCell i f s).trunk = s.trunk ∧
    (modifyCell i f s).notices = s.notices ∧ (modifyCell i f s).pending = s.pending := by
  and_intros <;> rfl

@[simp] theorem writeCompletion_keeps (w : PollKey) (s : State) :
    (writeCompletion w s).segment = s.segment ∧ (writeCompletion w s).rate = s.rate ∧
    (writeCompletion w s).held = s.held ∧ (writeCompletion w s).time = s.time ∧
    (writeCompletion w s).status = s.status ∧ (writeCompletion w s).pool = s.pool ∧
    (writeCompletion w s).engine = s.engine ∧ (writeCompletion w s).monitor = s.monitor ∧
    (writeCompletion w s).config = s.config ∧ (writeCompletion w s).trunk = s.trunk ∧
    (writeCompletion w s).notices = s.notices ∧ (writeCompletion w s).pending = s.pending := by
  simp [writeCompletion]

@[simp] theorem failCellsOf_keeps (a : NodeAddr) (s : State) :
    (failCellsOf a s).segment = s.segment ∧ (failCellsOf a s).rate = s.rate ∧ (failCellsOf a s).held = s.held ∧
    (failCellsOf a s).time = s.time ∧ (failCellsOf a s).status = s.status ∧ (failCellsOf a s).pool = s.pool ∧
    (failCellsOf a s).engine = s.engine ∧ (failCellsOf a s).monitor = s.monitor ∧
    (failCellsOf a s).config = s.config ∧ (failCellsOf a s).trunk = s.trunk ∧
    (failCellsOf a s).notices = s.notices ∧ (failCellsOf a s).pending = s.pending := by
  simp [failCellsOf]

@[simp] theorem rebuildMirror_keeps (old : Tables) (s : State) :
    (rebuildMirror old s).segment = s.segment ∧ (rebuildMirror old s).rate = s.rate ∧
    (rebuildMirror old s).held = s.held ∧ (rebuildMirror old s).time = s.time ∧
    (rebuildMirror old s).status = s.status ∧ (rebuildMirror old s).pool = s.pool ∧
    (rebuildMirror old s).engine = s.engine ∧ (rebuildMirror old s).monitor = s.monitor ∧
    (rebuildMirror old s).config = s.config ∧ (rebuildMirror old s).trunk = s.trunk ∧
    (rebuildMirror old s).notices = s.notices ∧ (rebuildMirror old s).pending = s.pending := by
  simp [rebuildMirror]

@[simp] theorem countCycle_keeps (s : State) :
    (countCycle s).segment = s.segment ∧ (countCycle s).rate = s.rate ∧ (countCycle s).held = s.held ∧
    (countCycle s).time = s.time ∧ (countCycle s).status = s.status ∧ (countCycle s).pool = s.pool ∧
    (countCycle s).engine = s.engine ∧ (countCycle s).monitor = s.monitor ∧ (countCycle s).config = s.config ∧
    (countCycle s).trunk = s.trunk ∧ (countCycle s).notices = s.notices ∧ (countCycle s).pending = s.pending := by
  and_intros <;> rfl

@[simp] theorem scheduleBoundary_keeps (s : State) :
    (scheduleBoundary s).segment = s.segment ∧ (scheduleBoundary s).rate = s.rate ∧
    (scheduleBoundary s).held = s.held ∧ (scheduleBoundary s).time = s.time ∧
    (scheduleBoundary s).status = s.status ∧ (scheduleBoundary s).pool = s.pool ∧
    (scheduleBoundary s).engine = s.engine ∧ (scheduleBoundary s).monitor = s.monitor ∧
    (scheduleBoundary s).config = s.config ∧ (scheduleBoundary s).trunk = s.trunk ∧
    (scheduleBoundary s).notices = s.notices ∧ (scheduleBoundary s).pending = s.pending := by
  and_intros <;> rfl

@[simp] theorem formDue_keeps (s : State) :
    (formDue s).segment = s.segment ∧ (formDue s).rate = s.rate ∧ (formDue s).held = s.held ∧
    (formDue s).time = s.time ∧ (formDue s).status = s.status ∧ (formDue s).pool = s.pool ∧
    (formDue s).engine = s.engine ∧ (formDue s).monitor = s.monitor ∧ (formDue s).config = s.config ∧
    (formDue s).trunk = s.trunk ∧ (formDue s).notices = s.notices ∧ (formDue s).pending = s.pending := by
  and_intros <;> rfl

/-! ### Pool -/

@[simp] theorem putSlot_keeps (i : SlotIx) (x : Option Slot) (s : State) :
    (putSlot i x s).segment = s.segment ∧ (putSlot i x s).rate = s.rate ∧ (putSlot i x s).held = s.held ∧
    (putSlot i x s).time = s.time ∧ (putSlot i x s).status = s.status ∧ (putSlot i x s).engine = s.engine ∧
    (putSlot i x s).monitor = s.monitor ∧ (putSlot i x s).calendar = s.calendar ∧
    (putSlot i x s).config = s.config ∧ (putSlot i x s).trunk = s.trunk ∧ (putSlot i x s).notices = s.notices ∧
    (putSlot i x s).pending = s.pending := by
  and_intros <;> rfl

@[simp] theorem modifySlot_keeps (i : SlotIx) (f : Slot → Slot) (s : State) :
    (modifySlot i f s).segment = s.segment ∧ (modifySlot i f s).rate = s.rate ∧ (modifySlot i f s).held = s.held ∧
    (modifySlot i f s).time = s.time ∧ (modifySlot i f s).status = s.status ∧
    (modifySlot i f s).engine = s.engine ∧ (modifySlot i f s).monitor = s.monitor ∧
    (modifySlot i f s).calendar = s.calendar ∧ (modifySlot i f s).config = s.config ∧
    (modifySlot i f s).trunk = s.trunk ∧ (modifySlot i f s).notices = s.notices ∧
    (modifySlot i f s).pending = s.pending := by
  and_intros <;> rfl

@[simp] theorem leaveQueues_keeps (p : SlotIx → Bool) (s : State) :
    (leaveQueues p s).segment = s.segment ∧ (leaveQueues p s).rate = s.rate ∧ (leaveQueues p s).held = s.held ∧
    (leaveQueues p s).time = s.time ∧ (leaveQueues p s).status = s.status ∧ (leaveQueues p s).engine = s.engine ∧
    (leaveQueues p s).monitor = s.monitor ∧ (leaveQueues p s).calendar = s.calendar ∧
    (leaveQueues p s).config = s.config ∧ (leaveQueues p s).trunk = s.trunk ∧
    (leaveQueues p s).notices = s.notices ∧ (leaveQueues p s).pending = s.pending := by
  and_intros <;> rfl

@[simp] theorem freeSlot_keeps (i : SlotIx) (s : State) :
    (freeSlot i s).segment = s.segment ∧ (freeSlot i s).rate = s.rate ∧ (freeSlot i s).held = s.held ∧
    (freeSlot i s).time = s.time ∧ (freeSlot i s).status = s.status ∧ (freeSlot i s).engine = s.engine ∧
    (freeSlot i s).monitor = s.monitor ∧ (freeSlot i s).calendar = s.calendar ∧ (freeSlot i s).config = s.config ∧
    (freeSlot i s).trunk = s.trunk ∧ (freeSlot i s).notices = s.notices ∧ (freeSlot i s).pending = s.pending := by
  and_intros <;> rfl

/-! ### Node Monitor -/

@[simp] theorem modifyHealth_keeps (n : NodeIx) (f : Health → Health) (s : State) :
    (modifyHealth n f s).segment = s.segment ∧ (modifyHealth n f s).rate = s.rate ∧
    (modifyHealth n f s).held = s.held ∧ (modifyHealth n f s).time = s.time ∧
    (modifyHealth n f s).status = s.status ∧ (modifyHealth n f s).pool = s.pool ∧
    (modifyHealth n f s).engine = s.engine ∧ (modifyHealth n f s).calendar = s.calendar ∧
    (modifyHealth n f s).config = s.config ∧ (modifyHealth n f s).trunk = s.trunk ∧
    (modifyHealth n f s).notices = s.notices ∧ (modifyHealth n f s).pending = s.pending := by
  and_intros <;> rfl

@[simp] theorem armProbe_keeps (n : NodeIx) (s : State) :
    (armProbe n s).segment = s.segment ∧ (armProbe n s).rate = s.rate ∧ (armProbe n s).held = s.held ∧
    (armProbe n s).time = s.time ∧ (armProbe n s).status = s.status ∧ (armProbe n s).pool = s.pool ∧
    (armProbe n s).engine = s.engine ∧ (armProbe n s).calendar = s.calendar ∧ (armProbe n s).config = s.config ∧
    (armProbe n s).trunk = s.trunk ∧ (armProbe n s).notices = s.notices ∧ (armProbe n s).pending = s.pending := by
  simp [armProbe]

@[simp] theorem unlistProbe_keeps (n : NodeIx) (s : State) :
    (unlistProbe n s).segment = s.segment ∧ (unlistProbe n s).rate = s.rate ∧ (unlistProbe n s).held = s.held ∧
    (unlistProbe n s).time = s.time ∧ (unlistProbe n s).status = s.status ∧ (unlistProbe n s).pool = s.pool ∧
    (unlistProbe n s).engine = s.engine ∧ (unlistProbe n s).calendar = s.calendar ∧
    (unlistProbe n s).config = s.config ∧ (unlistProbe n s).trunk = s.trunk ∧
    (unlistProbe n s).notices = s.notices ∧ (unlistProbe n s).pending = s.pending := by
  simp [unlistProbe]

@[simp] theorem listProbe_keeps (n : NodeIx) (s : State) :
    (listProbe n s).segment = s.segment ∧ (listProbe n s).rate = s.rate ∧ (listProbe n s).held = s.held ∧
    (listProbe n s).time = s.time ∧ (listProbe n s).status = s.status ∧ (listProbe n s).pool = s.pool ∧
    (listProbe n s).engine = s.engine ∧ (listProbe n s).calendar = s.calendar ∧
    (listProbe n s).config = s.config ∧ (listProbe n s).trunk = s.trunk ∧ (listProbe n s).notices = s.notices ∧
    (listProbe n s).pending = s.pending := by
  simp [listProbe]

/-! ### Engine -/

@[simp] theorem touchLine_keeps (s : State) :
    (touchLine s).segment = s.segment ∧ (touchLine s).rate = s.rate ∧ (touchLine s).held = s.held ∧
    (touchLine s).time = s.time ∧ (touchLine s).status = s.status ∧ (touchLine s).pool = s.pool ∧
    (touchLine s).monitor = s.monitor ∧ (touchLine s).calendar = s.calendar ∧ (touchLine s).config = s.config ∧
    (touchLine s).trunk = s.trunk ∧ (touchLine s).notices = s.notices ∧ (touchLine s).pending = s.pending := by
  and_intros <;> rfl

@[simp] theorem stopCollecting_keeps (d : DiscardDetail) (s : State) :
    (stopCollecting d s).segment = s.segment ∧ (stopCollecting d s).rate = s.rate ∧
    (stopCollecting d s).held = s.held ∧ (stopCollecting d s).time = s.time ∧
    (stopCollecting d s).status = s.status ∧ (stopCollecting d s).pool = s.pool ∧
    (stopCollecting d s).monitor = s.monitor ∧ (stopCollecting d s).calendar = s.calendar ∧
    (stopCollecting d s).config = s.config ∧ (stopCollecting d s).trunk = s.trunk ∧
    (stopCollecting d s).notices = s.notices ∧ (stopCollecting d s).pending = s.pending := by
  and_intros <;> rfl

@[simp] theorem storeChar_keeps (ch : LineChar) (s : State) :
    (storeChar ch s).segment = s.segment ∧ (storeChar ch s).rate = s.rate ∧ (storeChar ch s).held = s.held ∧
    (storeChar ch s).time = s.time ∧ (storeChar ch s).status = s.status ∧ (storeChar ch s).pool = s.pool ∧
    (storeChar ch s).monitor = s.monitor ∧ (storeChar ch s).calendar = s.calendar ∧
    (storeChar ch s).config = s.config ∧ (storeChar ch s).trunk = s.trunk ∧ (storeChar ch s).notices = s.notices ∧
    (storeChar ch s).pending = s.pending := by
  and_intros <;> rfl

@[simp] theorem guardEntered_keeps (t : Txn) (s : State) :
    (guardEntered t s).segment = s.segment ∧ (guardEntered t s).rate = s.rate ∧ (guardEntered t s).held = s.held ∧
    (guardEntered t s).time = s.time ∧ (guardEntered t s).status = s.status ∧ (guardEntered t s).pool = s.pool ∧
    (guardEntered t s).monitor = s.monitor ∧ (guardEntered t s).calendar = s.calendar ∧
    (guardEntered t s).config = s.config ∧ (guardEntered t s).trunk = s.trunk ∧
    (guardEntered t s).notices = s.notices ∧ (guardEntered t s).pending = s.pending := by
  and_intros <;> rfl

@[simp] theorem releaseLine_keeps (s : State) :
    (releaseLine s).segment = s.segment ∧ (releaseLine s).rate = s.rate ∧ (releaseLine s).held = s.held ∧
    (releaseLine s).time = s.time ∧ (releaseLine s).status = s.status ∧ (releaseLine s).pool = s.pool ∧
    (releaseLine s).monitor = s.monitor ∧ (releaseLine s).calendar = s.calendar ∧
    (releaseLine s).config = s.config ∧ (releaseLine s).trunk = s.trunk ∧ (releaseLine s).notices = s.notices ∧
    (releaseLine s).pending = s.pending := by
  and_intros <;> rfl

@[simp] theorem enterAwaiting_keeps (t : Txn) (s : State) :
    (enterAwaiting t s).segment = s.segment ∧ (enterAwaiting t s).rate = s.rate ∧
    (enterAwaiting t s).held = s.held ∧ (enterAwaiting t s).time = s.time ∧
    (enterAwaiting t s).status = s.status ∧ (enterAwaiting t s).pool = s.pool ∧
    (enterAwaiting t s).monitor = s.monitor ∧ (enterAwaiting t s).calendar = s.calendar ∧
    (enterAwaiting t s).config = s.config ∧ (enterAwaiting t s).trunk = s.trunk ∧
    (enterAwaiting t s).notices = s.notices ∧ (enterAwaiting t s).pending = s.pending := by
  and_intros <;> rfl

@[simp] theorem holdIsolate_keeps (f : ManageFrame) (s : State) :
    (holdIsolate f s).segment = s.segment ∧ (holdIsolate f s).rate = s.rate ∧ (holdIsolate f s).held = s.held ∧
    (holdIsolate f s).time = s.time ∧ (holdIsolate f s).status = s.status ∧ (holdIsolate f s).pool = s.pool ∧
    (holdIsolate f s).monitor = s.monitor ∧ (holdIsolate f s).calendar = s.calendar ∧
    (holdIsolate f s).config = s.config ∧ (holdIsolate f s).trunk = s.trunk ∧
    (holdIsolate f s).notices = s.notices ∧ (holdIsolate f s).pending = s.pending := by
  and_intros <;> rfl

@[simp] theorem leaveIsolated_keeps (s : State) :
    (leaveIsolated s).segment = s.segment ∧ (leaveIsolated s).rate = s.rate ∧ (leaveIsolated s).held = s.held ∧
    (leaveIsolated s).time = s.time ∧ (leaveIsolated s).status = s.status ∧ (leaveIsolated s).pool = s.pool ∧
    (leaveIsolated s).monitor = s.monitor ∧ (leaveIsolated s).calendar = s.calendar ∧
    (leaveIsolated s).config = s.config ∧ (leaveIsolated s).trunk = s.trunk ∧
    (leaveIsolated s).notices = s.notices ∧ (leaveIsolated s).pending = s.pending := by
  and_intros <;> rfl

/-! ### Configuration Unit -/

@[simp] theorem startSessionTimer_keeps (id : Byte) (s : State) :
    (startSessionTimer id s).segment = s.segment ∧ (startSessionTimer id s).rate = s.rate ∧
    (startSessionTimer id s).held = s.held ∧ (startSessionTimer id s).time = s.time ∧
    (startSessionTimer id s).status = s.status ∧ (startSessionTimer id s).pool = s.pool ∧
    (startSessionTimer id s).engine = s.engine ∧ (startSessionTimer id s).monitor = s.monitor ∧
    (startSessionTimer id s).calendar = s.calendar ∧ (startSessionTimer id s).trunk = s.trunk ∧
    (startSessionTimer id s).notices = s.notices ∧ (startSessionTimer id s).pending = s.pending := by
  and_intros <;> rfl

@[simp] theorem closeSession_keeps (s : State) :
    (closeSession s).segment = s.segment ∧ (closeSession s).rate = s.rate ∧ (closeSession s).held = s.held ∧
    (closeSession s).time = s.time ∧ (closeSession s).status = s.status ∧ (closeSession s).pool = s.pool ∧
    (closeSession s).engine = s.engine ∧ (closeSession s).monitor = s.monitor ∧
    (closeSession s).calendar = s.calendar ∧ (closeSession s).trunk = s.trunk ∧
    (closeSession s).notices = s.notices ∧ (closeSession s).pending = s.pending := by
  and_intros <;> rfl

@[simp] theorem installShadow_keeps (s : State) :
    (installShadow s).segment = s.segment ∧ (installShadow s).rate = s.rate ∧ (installShadow s).held = s.held ∧
    (installShadow s).time = s.time ∧ (installShadow s).status = s.status ∧ (installShadow s).pool = s.pool ∧
    (installShadow s).engine = s.engine ∧ (installShadow s).monitor = s.monitor ∧
    (installShadow s).calendar = s.calendar ∧ (installShadow s).trunk = s.trunk ∧
    (installShadow s).notices = s.notices ∧ (installShadow s).pending = s.pending := by
  and_intros <;> rfl

/-! ### Trunk Interface -/

@[simp] theorem enqueueUp_keeps (item : UpItem) (s : State) :
    (enqueueUp item s).segment = s.segment ∧ (enqueueUp item s).rate = s.rate ∧ (enqueueUp item s).held = s.held ∧
    (enqueueUp item s).time = s.time ∧ (enqueueUp item s).status = s.status ∧ (enqueueUp item s).pool = s.pool ∧
    (enqueueUp item s).engine = s.engine ∧ (enqueueUp item s).monitor = s.monitor ∧
    (enqueueUp item s).calendar = s.calendar ∧ (enqueueUp item s).config = s.config ∧
    (enqueueUp item s).notices = s.notices ∧ (enqueueUp item s).pending = s.pending := by
  and_intros <;> rfl

@[simp] theorem startA_keeps (claimant : UpClaimant) (bytes : List Byte) (s : State) :
    (startA claimant bytes s).segment = s.segment ∧ (startA claimant bytes s).rate = s.rate ∧
    (startA claimant bytes s).held = s.held ∧ (startA claimant bytes s).time = s.time ∧
    (startA claimant bytes s).status = s.status ∧ (startA claimant bytes s).pool = s.pool ∧
    (startA claimant bytes s).engine = s.engine ∧ (startA claimant bytes s).monitor = s.monitor ∧
    (startA claimant bytes s).calendar = s.calendar ∧ (startA claimant bytes s).config = s.config ∧
    (startA claimant bytes s).notices = s.notices ∧ (startA claimant bytes s).pending = s.pending := by
  and_intros <;> rfl

@[simp] theorem placeReply_keeps (r : Reply) (s : State) :
    (placeReply r s).segment = s.segment ∧ (placeReply r s).rate = s.rate ∧ (placeReply r s).held = s.held ∧
    (placeReply r s).time = s.time ∧ (placeReply r s).pool = s.pool ∧ (placeReply r s).engine = s.engine ∧
    (placeReply r s).monitor = s.monitor ∧ (placeReply r s).calendar = s.calendar ∧
    (placeReply r s).config = s.config ∧ (placeReply r s).notices = s.notices ∧
    (placeReply r s).pending = s.pending := by
  and_intros <;> rfl

@[simp] theorem answer_keeps (tag node : Byte) (status : Status) (detail : Byte) (body : List Piece) (s : State) :
    (answer tag node status detail body s).segment = s.segment ∧
    (answer tag node status detail body s).rate = s.rate ∧ (answer tag node status detail body s).held = s.held ∧
    (answer tag node status detail body s).time = s.time ∧ (answer tag node status detail body s).pool = s.pool ∧
    (answer tag node status detail body s).engine = s.engine ∧
    (answer tag node status detail body s).monitor = s.monitor ∧
    (answer tag node status detail body s).calendar = s.calendar ∧
    (answer tag node status detail body s).config = s.config ∧
    (answer tag node status detail body s).notices = s.notices ∧
    (answer tag node status detail body s).pending = s.pending := by
  and_intros <;> rfl

@[simp] theorem reply_keeps (f : ManageFrame) (status : Status) (detail : Byte) (body : List Piece) (s : State) :
    (reply f status detail body s).segment = s.segment ∧ (reply f status detail body s).rate = s.rate ∧
    (reply f status detail body s).held = s.held ∧ (reply f status detail body s).time = s.time ∧
    (reply f status detail body s).pool = s.pool ∧ (reply f status detail body s).engine = s.engine ∧
    (reply f status detail body s).monitor = s.monitor ∧ (reply f status detail body s).calendar = s.calendar ∧
    (reply f status detail body s).config = s.config ∧ (reply f status detail body s).notices = s.notices ∧
    (reply f status detail body s).pending = s.pending := by
  and_intros <;> rfl

@[simp] theorem deferredReply_keeps (tag : Tag) (status : Status) (body : List Piece) (s : State) :
    (deferredReply tag status body s).segment = s.segment ∧ (deferredReply tag status body s).rate = s.rate ∧
    (deferredReply tag status body s).held = s.held ∧ (deferredReply tag status body s).time = s.time ∧
    (deferredReply tag status body s).pool = s.pool ∧ (deferredReply tag status body s).engine = s.engine ∧
    (deferredReply tag status body s).monitor = s.monitor ∧
    (deferredReply tag status body s).calendar = s.calendar ∧
    (deferredReply tag status body s).config = s.config ∧ (deferredReply tag status body s).notices = s.notices ∧
    (deferredReply tag status body s).pending = s.pending := by
  and_intros <;> rfl

@[simp] theorem badArgument_keeps (f : ManageFrame) (s : State) :
    (badArgument f s).segment = s.segment ∧ (badArgument f s).rate = s.rate ∧ (badArgument f s).held = s.held ∧
    (badArgument f s).time = s.time ∧ (badArgument f s).pool = s.pool ∧ (badArgument f s).engine = s.engine ∧
    (badArgument f s).monitor = s.monitor ∧ (badArgument f s).calendar = s.calendar ∧
    (badArgument f s).config = s.config ∧ (badArgument f s).notices = s.notices ∧
    (badArgument f s).pending = s.pending := by
  and_intros <;> rfl

@[simp] theorem answerPort_keeps (f : ManageFrame) (s : State) :
    (answerPort f s).segment = s.segment ∧ (answerPort f s).rate = s.rate ∧ (answerPort f s).held = s.held ∧
    (answerPort f s).time = s.time ∧ (answerPort f s).pool = s.pool ∧ (answerPort f s).engine = s.engine ∧
    (answerPort f s).monitor = s.monitor ∧ (answerPort f s).calendar = s.calendar ∧
    (answerPort f s).config = s.config ∧ (answerPort f s).notices = s.notices ∧
    (answerPort f s).pending = s.pending := by
  and_intros <;> rfl

@[simp] theorem discardFrame_keeps (s : State) :
    (discardFrame s).segment = s.segment ∧ (discardFrame s).rate = s.rate ∧ (discardFrame s).held = s.held ∧
    (discardFrame s).time = s.time ∧ (discardFrame s).pool = s.pool ∧ (discardFrame s).engine = s.engine ∧
    (discardFrame s).monitor = s.monitor ∧ (discardFrame s).calendar = s.calendar ∧
    (discardFrame s).config = s.config ∧ (discardFrame s).trunk = s.trunk ∧ (discardFrame s).notices = s.notices ∧
    (discardFrame s).pending = s.pending := by
  and_intros <;> rfl

/-! ### Every block at once -/

@[simp] theorem softReset_keeps (s : State) :
    (softReset s).segment = s.segment ∧ (softReset s).rate = s.rate ∧ (softReset s).held = s.held ∧
    (softReset s).time = s.time ∧ (softReset s).pending = s.pending := by
  and_intros <;> rfl

end Sys2Proof.Machine
end

