-- ==== Sys2Proof/Laws/Frames.lean ====
section
/-! SUPPORT. What each shared operation keeps, whatever case it takes: one lemma per operation, which later proofs cite in place
of unfolding it. -/

namespace Sys2Proof.Machine

/-- A field that each step of a fold keeps, the fold keeps. -/
theorem foldl_keeps {α β : Type} (g : State → β) (f : State → α → State) (h : ∀ s a, g (f s a) = g s) (l : List α)
    (s : State) : g (l.foldl f s) = g s := by
  induction l generalizing s with
  | nil => rfl
  | cons a l ih => simp [ih, h]

/-! ### Notices, pool and mirror -/

@[simp] theorem raise_keeps (kind : NoticeKind) (node : Option NodeAddr) (detail : Word) (s : State) :
    (raise kind node detail s).segment = s.segment ∧ (raise kind node detail s).rate = s.rate ∧
    (raise kind node detail s).held = s.held ∧ (raise kind node detail s).time = s.time ∧
    (raise kind node detail s).status = s.status ∧ (raise kind node detail s).pool = s.pool ∧
    (raise kind node detail s).engine = s.engine ∧ (raise kind node detail s).monitor = s.monitor ∧
    (raise kind node detail s).calendar = s.calendar ∧ (raise kind node detail s).config = s.config ∧
    (raise kind node detail s).trunk = s.trunk ∧ (raise kind node detail s).pending = s.pending := by
  and_intros <;> (unfold raise; (try dsimp only); repeat' (first | (simp; done) | split))

@[simp] theorem pollOutcome_keeps (key : PollKey) (result : DropResult) (s : State) :
    (pollOutcome key result s).segment = s.segment ∧ (pollOutcome key result s).rate = s.rate ∧
    (pollOutcome key result s).held = s.held ∧ (pollOutcome key result s).time = s.time ∧
    (pollOutcome key result s).pool = s.pool ∧ (pollOutcome key result s).engine = s.engine ∧
    (pollOutcome key result s).monitor = s.monitor ∧ (pollOutcome key result s).config = s.config ∧
    (pollOutcome key result s).trunk = s.trunk ∧ (pollOutcome key result s).notices = s.notices ∧
    (pollOutcome key result s).pending = s.pending := by
  and_intros <;> (unfold pollOutcome; (try dsimp only); repeat' (first | (simp; done) | split))

@[simp] theorem accountLeftovers_keeps (s : State) :
    (accountLeftovers s).segment = s.segment ∧ (accountLeftovers s).rate = s.rate ∧
    (accountLeftovers s).held = s.held ∧ (accountLeftovers s).time = s.time ∧ (accountLeftovers s).pool = s.pool ∧
    (accountLeftovers s).engine = s.engine ∧ (accountLeftovers s).monitor = s.monitor ∧
    (accountLeftovers s).config = s.config ∧ (accountLeftovers s).trunk = s.trunk ∧
    (accountLeftovers s).pending = s.pending := by
  and_intros <;> (unfold accountLeftovers; (try dsimp only); repeat' (first | (simp [foldl_keeps]; done) | split))

@[simp] theorem joinTail_keeps (cls : Class) (i : SlotIx) (s : State) :
    (joinTail cls i s).segment = s.segment ∧ (joinTail cls i s).rate = s.rate ∧ (joinTail cls i s).held = s.held ∧
    (joinTail cls i s).time = s.time ∧ (joinTail cls i s).status = s.status ∧
    (joinTail cls i s).engine = s.engine ∧ (joinTail cls i s).monitor = s.monitor ∧
    (joinTail cls i s).calendar = s.calendar ∧ (joinTail cls i s).config = s.config ∧
    (joinTail cls i s).trunk = s.trunk ∧ (joinTail cls i s).notices = s.notices ∧
    (joinTail cls i s).pending = s.pending := by
  and_intros <;> (unfold joinTail; (try dsimp only); repeat' (first | (simp; done) | split))

@[simp] theorem joinHead_keeps (cls : Class) (i : SlotIx) (s : State) :
    (joinHead cls i s).segment = s.segment ∧ (joinHead cls i s).rate = s.rate ∧ (joinHead cls i s).held = s.held ∧
    (joinHead cls i s).time = s.time ∧ (joinHead cls i s).status = s.status ∧
    (joinHead cls i s).engine = s.engine ∧ (joinHead cls i s).monitor = s.monitor ∧
    (joinHead cls i s).calendar = s.calendar ∧ (joinHead cls i s).config = s.config ∧
    (joinHead cls i s).trunk = s.trunk ∧ (joinHead cls i s).notices = s.notices ∧
    (joinHead cls i s).pending = s.pending := by
  and_intros <;> (unfold joinHead; (try dsimp only); repeat' (first | (simp; done) | split))

@[simp] theorem admitSlot_keeps (r : Slot) (s : State) :
    (admitSlot r s).segment = s.segment ∧ (admitSlot r s).rate = s.rate ∧ (admitSlot r s).held = s.held ∧
    (admitSlot r s).time = s.time ∧ (admitSlot r s).engine = s.engine ∧ (admitSlot r s).monitor = s.monitor ∧
    (admitSlot r s).calendar = s.calendar ∧ (admitSlot r s).config = s.config ∧ (admitSlot r s).trunk = s.trunk ∧
    (admitSlot r s).notices = s.notices ∧ (admitSlot r s).pending = s.pending := by
  and_intros <;> (unfold admitSlot; (try dsimp only); repeat' (first | (simp; done) | split))

@[simp] theorem completeSlot_keeps (i : SlotIx) (status : Status) (detail : Byte) (data : List Word) (s : State) :
    (completeSlot i status detail data s).segment = s.segment ∧
    (completeSlot i status detail data s).rate = s.rate ∧ (completeSlot i status detail data s).held = s.held ∧
    (completeSlot i status detail data s).time = s.time ∧
    (completeSlot i status detail data s).status = s.status ∧
    (completeSlot i status detail data s).engine = s.engine ∧
    (completeSlot i status detail data s).monitor = s.monitor ∧
    (completeSlot i status detail data s).config = s.config ∧
    (completeSlot i status detail data s).notices = s.notices ∧
    (completeSlot i status detail data s).pending = s.pending := by
  and_intros <;> (unfold completeSlot; (try dsimp only); repeat' (first | (simp; done) | split))

@[simp] theorem finishHost_keeps (i : SlotIx) (result : DropResult) (s : State) :
    (finishHost i result s).segment = s.segment ∧ (finishHost i result s).rate = s.rate ∧
    (finishHost i result s).held = s.held ∧ (finishHost i result s).time = s.time ∧
    (finishHost i result s).status = s.status ∧ (finishHost i result s).engine = s.engine ∧
    (finishHost i result s).monitor = s.monitor ∧ (finishHost i result s).config = s.config ∧
    (finishHost i result s).notices = s.notices ∧ (finishHost i result s).pending = s.pending := by
  and_intros <;> (unfold finishHost; (try dsimp only); repeat' (first | (simp; done) | split))

@[simp] theorem jamHost_keeps (i : SlotIx) (s : State) :
    (jamHost i s).segment = s.segment ∧ (jamHost i s).rate = s.rate ∧ (jamHost i s).held = s.held ∧
    (jamHost i s).time = s.time ∧ (jamHost i s).status = s.status ∧ (jamHost i s).engine = s.engine ∧
    (jamHost i s).monitor = s.monitor ∧ (jamHost i s).config = s.config ∧ (jamHost i s).notices = s.notices ∧
    (jamHost i s).pending = s.pending := by
  and_intros <;> (unfold jamHost; (try dsimp only); repeat' (first | (simp; done) | split))

@[simp] theorem returnHost_keeps (i : SlotIx) (s : State) :
    (returnHost i s).segment = s.segment ∧ (returnHost i s).rate = s.rate ∧ (returnHost i s).held = s.held ∧
    (returnHost i s).time = s.time ∧ (returnHost i s).status = s.status ∧ (returnHost i s).engine = s.engine ∧
    (returnHost i s).monitor = s.monitor ∧ (returnHost i s).config = s.config ∧
    (returnHost i s).notices = s.notices ∧ (returnHost i s).pending = s.pending := by
  and_intros <;> (unfold returnHost; (try dsimp only); repeat' (first | (simp; done) | split))

@[simp] theorem flush_keeps (p : Slot → Bool) (status : Status) (s : State) :
    (flush p status s).segment = s.segment ∧ (flush p status s).rate = s.rate ∧ (flush p status s).held = s.held ∧
    (flush p status s).time = s.time ∧ (flush p status s).status = s.status ∧
    (flush p status s).engine = s.engine ∧ (flush p status s).monitor = s.monitor ∧
    (flush p status s).config = s.config ∧ (flush p status s).notices = s.notices ∧
    (flush p status s).pending = s.pending := by
  and_intros <;> (unfold flush; (try dsimp only); repeat' (first | (simp [foldl_keeps]; done) | split))

/-! ### Node Monitor -/

@[simp] theorem dropProbe_keeps (n : NodeIx) (s : State) :
    (dropProbe n s).segment = s.segment ∧ (dropProbe n s).rate = s.rate ∧ (dropProbe n s).held = s.held ∧
    (dropProbe n s).time = s.time ∧ (dropProbe n s).status = s.status ∧ (dropProbe n s).pool = s.pool ∧
    (dropProbe n s).engine = s.engine ∧ (dropProbe n s).calendar = s.calendar ∧
    (dropProbe n s).config = s.config ∧ (dropProbe n s).trunk = s.trunk ∧ (dropProbe n s).notices = s.notices ∧
    (dropProbe n s).pending = s.pending := by
  and_intros <;> (unfold dropProbe; (try dsimp only); repeat' (first | (simp; done) | split))

@[simp] theorem emptyProbeList_keeps (s : State) :
    (emptyProbeList s).segment = s.segment ∧ (emptyProbeList s).rate = s.rate ∧ (emptyProbeList s).held = s.held ∧
    (emptyProbeList s).time = s.time ∧ (emptyProbeList s).status = s.status ∧ (emptyProbeList s).pool = s.pool ∧
    (emptyProbeList s).engine = s.engine ∧ (emptyProbeList s).calendar = s.calendar ∧
    (emptyProbeList s).config = s.config ∧ (emptyProbeList s).trunk = s.trunk ∧
    (emptyProbeList s).notices = s.notices ∧ (emptyProbeList s).pending = s.pending := by
  and_intros <;> (unfold emptyProbeList; (try dsimp only); repeat' (first | (simp [foldl_keeps]; done) | split))

@[simp] theorem applyAnswer_keeps (n : NodeIx) (latency : Word32) (s : State) :
    (applyAnswer n latency s).segment = s.segment ∧ (applyAnswer n latency s).rate = s.rate ∧
    (applyAnswer n latency s).held = s.held ∧ (applyAnswer n latency s).time = s.time ∧
    (applyAnswer n latency s).pool = s.pool ∧ (applyAnswer n latency s).engine = s.engine ∧
    (applyAnswer n latency s).calendar = s.calendar ∧ (applyAnswer n latency s).config = s.config ∧
    (applyAnswer n latency s).trunk = s.trunk ∧ (applyAnswer n latency s).pending = s.pending := by
  and_intros <;> (unfold applyAnswer; (try dsimp only); repeat' (first | (simp; done) | split))

@[simp] theorem enterOffline_keeps (n : NodeIx) (s : State) :
    (enterOffline n s).segment = s.segment ∧ (enterOffline n s).rate = s.rate ∧ (enterOffline n s).held = s.held ∧
    (enterOffline n s).time = s.time ∧ (enterOffline n s).engine = s.engine ∧
    (enterOffline n s).config = s.config ∧ (enterOffline n s).pending = s.pending := by
  simp [enterOffline]

@[simp] theorem applyFailure_keeps (n : NodeIx) (s : State) :
    (applyFailure n s).segment = s.segment ∧ (applyFailure n s).rate = s.rate ∧ (applyFailure n s).held = s.held ∧
    (applyFailure n s).time = s.time ∧ (applyFailure n s).engine = s.engine ∧
    (applyFailure n s).config = s.config ∧ (applyFailure n s).pending = s.pending := by
  and_intros <;> (unfold applyFailure; (try dsimp only); repeat' (first | (simp; done) | split))

@[simp] theorem applyOutcome_keeps (n : NodeIx) (result : DropResult) (latency : Word32) (s : State) :
    (applyOutcome n result latency s).segment = s.segment ∧ (applyOutcome n result latency s).rate = s.rate ∧
    (applyOutcome n result latency s).held = s.held ∧ (applyOutcome n result latency s).time = s.time ∧
    (applyOutcome n result latency s).engine = s.engine ∧ (applyOutcome n result latency s).config = s.config ∧
    (applyOutcome n result latency s).pending = s.pending := by
  and_intros <;> (unfold applyOutcome; (try dsimp only); repeat' (first | (simp; done) | split))

@[simp] theorem probeOutcome_keeps (n : NodeIx) (result : DropResult) (latency : Word32) (s : State) :
    (probeOutcome n result latency s).segment = s.segment ∧ (probeOutcome n result latency s).rate = s.rate ∧
    (probeOutcome n result latency s).held = s.held ∧ (probeOutcome n result latency s).time = s.time ∧
    (probeOutcome n result latency s).engine = s.engine ∧ (probeOutcome n result latency s).config = s.config ∧
    (probeOutcome n result latency s).pending = s.pending := by
  and_intros <;> (unfold probeOutcome; (try dsimp only); repeat' (first | (simp; done) | split))

@[simp] theorem updatePresence_keeps (before after : Bool) (n : NodeIx) (s : State) :
    (updatePresence before after n s).segment = s.segment ∧ (updatePresence before after n s).rate = s.rate ∧
    (updatePresence before after n s).held = s.held ∧ (updatePresence before after n s).time = s.time ∧
    (updatePresence before after n s).engine = s.engine ∧ (updatePresence before after n s).config = s.config ∧
    (updatePresence before after n s).notices = s.notices ∧
    (updatePresence before after n s).pending = s.pending := by
  and_intros <;> (unfold updatePresence; (try dsimp only); repeat' (first | (simp; done) | split))

@[simp] theorem updateNodes_keeps (old : Tables) (s : State) :
    (updateNodes old s).segment = s.segment ∧ (updateNodes old s).rate = s.rate ∧
    (updateNodes old s).held = s.held ∧ (updateNodes old s).time = s.time ∧
    (updateNodes old s).engine = s.engine ∧ (updateNodes old s).config = s.config ∧
    (updateNodes old s).notices = s.notices ∧ (updateNodes old s).pending = s.pending := by
  and_intros <;> (unfold updateNodes; (try dsimp only); repeat' (first | (simp [foldl_keeps]; done) | split))

/-! ### Trunk Interface -/

@[simp] theorem discardBroadcastHeads_keeps (l : List UpEntry) (s : State) :
    (discardBroadcastHeads l s).segment = s.segment ∧ (discardBroadcastHeads l s).rate = s.rate ∧
    (discardBroadcastHeads l s).held = s.held ∧ (discardBroadcastHeads l s).time = s.time ∧
    (discardBroadcastHeads l s).status = s.status ∧ (discardBroadcastHeads l s).engine = s.engine ∧
    (discardBroadcastHeads l s).monitor = s.monitor ∧ (discardBroadcastHeads l s).calendar = s.calendar ∧
    (discardBroadcastHeads l s).config = s.config ∧ (discardBroadcastHeads l s).notices = s.notices ∧
    (discardBroadcastHeads l s).pending = s.pending := by
  induction l generalizing s with
  | nil => and_intros <;> rfl
  | cons e l ih => unfold discardBroadcastHeads; (repeat' split) <;> simp [ih]

/-- What a grant of the A-transmit arbiter can change: the Trunk Interface and the Notice Queue. -/
theorem grantOf_keeps {c : UpClaimant} {s t : State} (h : grantOf c s = some t) :
    t.segment = s.segment ∧ t.rate = s.rate ∧ t.held = s.held ∧ t.time = s.time ∧ t.status = s.status ∧
    t.pool = s.pool ∧ t.engine = s.engine ∧ t.monitor = s.monitor ∧ t.calendar = s.calendar ∧
    t.config = s.config ∧ t.pending = s.pending := by
  cases c
  · replace h : grantRelay s = some t := h
    unfold grantRelay at h
    split at h
    · cases h
    · obtain rfl := Option.some.inj h; simp
  · replace h : grantUpstream s = some t := h
    unfold grantUpstream at h
    split at h
    · cases h
    · obtain rfl := Option.some.inj h; simp
  · replace h : grantNotice s = some t := h
    unfold grantNotice at h
    split at h
    · obtain rfl := Option.some.inj h; simp
    · cases h

/-- The arbiter's decision is the grant of one claimant, or nothing when none waits (R150). -/
theorem grantCyclic_cases (s : State) : grantCyclic s = s ∨ ∃ c, grantOf c s = some (grantCyclic s) := by
  unfold grantCyclic
  dsimp only
  cases h1 : grantOf s.trunk.marker.after s with
  | some t => exact .inr ⟨_, h1⟩
  | none =>
    cases h2 : grantOf s.trunk.marker.after.after s with
    | some t => exact .inr ⟨_, h2⟩
    | none =>
      cases h3 : grantOf s.trunk.marker.after.after.after s with
      | some t => exact .inr ⟨_, h3⟩
      | none => exact .inl rfl

@[simp] theorem grantCyclic_keeps (s : State) :
    (grantCyclic s).segment = s.segment ∧ (grantCyclic s).rate = s.rate ∧ (grantCyclic s).held = s.held ∧
    (grantCyclic s).time = s.time ∧ (grantCyclic s).status = s.status ∧ (grantCyclic s).pool = s.pool ∧
    (grantCyclic s).engine = s.engine ∧ (grantCyclic s).monitor = s.monitor ∧
    (grantCyclic s).calendar = s.calendar ∧ (grantCyclic s).config = s.config ∧
    (grantCyclic s).pending = s.pending := by
  rcases grantCyclic_cases s with h | ⟨c, h⟩
  · rw [h]; and_intros <;> rfl
  · exact grantOf_keeps h

@[simp] theorem decideA_keeps (s : State) :
    (decideA s).segment = s.segment ∧ (decideA s).rate = s.rate ∧ (decideA s).held = s.held ∧
    (decideA s).time = s.time ∧ (decideA s).status = s.status ∧ (decideA s).engine = s.engine ∧
    (decideA s).monitor = s.monitor ∧ (decideA s).calendar = s.calendar ∧ (decideA s).config = s.config ∧
    (decideA s).pending = s.pending := by
  and_intros <;> (unfold decideA; (try dsimp only); repeat' (first | (simp; done) | split))

@[simp] theorem startB_keeps (s : State) :
    (startB s).segment = s.segment ∧ (startB s).rate = s.rate ∧ (startB s).held = s.held ∧
    (startB s).time = s.time ∧ (startB s).status = s.status ∧ (startB s).pool = s.pool ∧
    (startB s).engine = s.engine ∧ (startB s).monitor = s.monitor ∧ (startB s).calendar = s.calendar ∧
    (startB s).config = s.config ∧ (startB s).notices = s.notices ∧ (startB s).pending = s.pending := by
  and_intros <;> (unfold startB; (try dsimp only); repeat' (first | (simp; done) | split))

@[simp] theorem relayDown_keeps (bytes : List Byte) (arrival : Stamp) (s : State) :
    (relayDown bytes arrival s).segment = s.segment ∧ (relayDown bytes arrival s).rate = s.rate ∧
    (relayDown bytes arrival s).held = s.held ∧ (relayDown bytes arrival s).time = s.time ∧
    (relayDown bytes arrival s).pool = s.pool ∧ (relayDown bytes arrival s).engine = s.engine ∧
    (relayDown bytes arrival s).monitor = s.monitor ∧ (relayDown bytes arrival s).calendar = s.calendar ∧
    (relayDown bytes arrival s).config = s.config ∧ (relayDown bytes arrival s).pending = s.pending := by
  and_intros <;> (unfold relayDown; (try dsimp only); repeat' (first | (simp; done) | split))

@[simp] theorem relayUp_keeps (bytes : List Byte) (s : State) :
    (relayUp bytes s).segment = s.segment ∧ (relayUp bytes s).rate = s.rate ∧ (relayUp bytes s).held = s.held ∧
    (relayUp bytes s).time = s.time ∧ (relayUp bytes s).pool = s.pool ∧ (relayUp bytes s).engine = s.engine ∧
    (relayUp bytes s).monitor = s.monitor ∧ (relayUp bytes s).calendar = s.calendar ∧
    (relayUp bytes s).config = s.config ∧ (relayUp bytes s).pending = s.pending := by
  and_intros <;> (unfold relayUp; (try dsimp only); repeat' (first | (simp; done) | split))

/-! ### Drop engine and arbiter -/

@[simp] theorem countAttempt_keeps (t : Txn) (s : State) :
    (countAttempt t s).segment = s.segment ∧ (countAttempt t s).rate = s.rate ∧ (countAttempt t s).held = s.held ∧
    (countAttempt t s).time = s.time ∧ (countAttempt t s).status = s.status ∧
    (countAttempt t s).monitor = s.monitor ∧ (countAttempt t s).calendar = s.calendar ∧
    (countAttempt t s).config = s.config ∧ (countAttempt t s).trunk = s.trunk ∧
    (countAttempt t s).notices = s.notices ∧ (countAttempt t s).pending = s.pending := by
  and_intros <;> (unfold countAttempt; (try dsimp only); repeat' (first | (simp; done) | split))

@[simp] theorem beginAttempt_keeps (t : Txn) (s : State) :
    (beginAttempt t s).segment = s.segment ∧ (beginAttempt t s).rate = s.rate ∧ (beginAttempt t s).held = s.held ∧
    (beginAttempt t s).time = s.time ∧ (beginAttempt t s).monitor = s.monitor ∧
    (beginAttempt t s).calendar = s.calendar ∧ (beginAttempt t s).config = s.config ∧
    (beginAttempt t s).trunk = s.trunk ∧ (beginAttempt t s).notices = s.notices ∧
    (beginAttempt t s).pending = s.pending := by
  and_intros <;> (unfold beginAttempt; (try dsimp only); repeat' (first | (simp; done) | split))

@[simp] theorem enterGuard_keeps (t : Txn) (s : State) :
    (enterGuard t s).segment = s.segment ∧ (enterGuard t s).rate = s.rate ∧ (enterGuard t s).held = s.held ∧
    (enterGuard t s).time = s.time ∧ (enterGuard t s).monitor = s.monitor ∧
    (enterGuard t s).calendar = s.calendar ∧ (enterGuard t s).config = s.config ∧
    (enterGuard t s).trunk = s.trunk ∧ (enterGuard t s).notices = s.notices ∧
    (enterGuard t s).pending = s.pending := by
  and_intros <;> (unfold enterGuard; (try dsimp only); repeat' (first | (simp; done) | split))

@[simp] theorem grantHost_keeps (i : SlotIx) (s : State) :
    (grantHost i s).segment = s.segment ∧ (grantHost i s).rate = s.rate ∧ (grantHost i s).held = s.held ∧
    (grantHost i s).time = s.time ∧ (grantHost i s).monitor = s.monitor ∧ (grantHost i s).calendar = s.calendar ∧
    (grantHost i s).config = s.config ∧ (grantHost i s).trunk = s.trunk ∧ (grantHost i s).notices = s.notices ∧
    (grantHost i s).pending = s.pending := by
  and_intros <;> (unfold grantHost; cases s.pool.slots[i] <;> simp)

@[simp] theorem grantPoll_keeps (i : CellIx) (s : State) :
    (grantPoll i s).segment = s.segment ∧ (grantPoll i s).rate = s.rate ∧ (grantPoll i s).held = s.held ∧
    (grantPoll i s).time = s.time ∧ (grantPoll i s).monitor = s.monitor ∧ (grantPoll i s).calendar = s.calendar ∧
    (grantPoll i s).config = s.config ∧ (grantPoll i s).trunk = s.trunk ∧ (grantPoll i s).notices = s.notices ∧
    (grantPoll i s).pending = s.pending := by
  simp [grantPoll]

@[simp] theorem grantProbe_keeps (n : NodeIx) (s : State) :
    (grantProbe n s).segment = s.segment ∧ (grantProbe n s).rate = s.rate ∧ (grantProbe n s).held = s.held ∧
    (grantProbe n s).time = s.time ∧ (grantProbe n s).calendar = s.calendar ∧ (grantProbe n s).config = s.config ∧
    (grantProbe n s).trunk = s.trunk ∧ (grantProbe n s).notices = s.notices ∧
    (grantProbe n s).pending = s.pending := by
  simp [grantProbe]

@[simp] theorem takeGrant_keeps (g : Grant) (s : State) :
    (takeGrant g s).segment = s.segment ∧ (takeGrant g s).rate = s.rate ∧ (takeGrant g s).held = s.held ∧
    (takeGrant g s).time = s.time ∧ (takeGrant g s).config = s.config ∧ (takeGrant g s).trunk = s.trunk ∧
    (takeGrant g s).notices = s.notices ∧ (takeGrant g s).pending = s.pending := by
  and_intros <;> (unfold takeGrant; (try dsimp only); repeat' (first | (simp; done) | split))

@[simp] theorem decideDrop_keeps (s : State) :
    (decideDrop s).segment = s.segment ∧ (decideDrop s).rate = s.rate ∧ (decideDrop s).held = s.held ∧
    (decideDrop s).time = s.time ∧ (decideDrop s).config = s.config ∧ (decideDrop s).trunk = s.trunk ∧
    (decideDrop s).notices = s.notices ∧ (decideDrop s).pending = s.pending := by
  and_intros <;> (unfold decideDrop; (try dsimp only); repeat' (first | (simp; done) | split))

@[simp] theorem flushPort_keeps (status : Status) (s : State) :
    (flushPort status s).segment = s.segment ∧ (flushPort status s).rate = s.rate ∧
    (flushPort status s).held = s.held ∧ (flushPort status s).time = s.time ∧
    (flushPort status s).status = s.status ∧ (flushPort status s).engine = s.engine ∧
    (flushPort status s).config = s.config ∧ (flushPort status s).notices = s.notices ∧
    (flushPort status s).pending = s.pending := by
  simp [flushPort]

@[simp] theorem returnGrant_keeps (s : State) :
    (returnGrant s).segment = s.segment ∧ (returnGrant s).rate = s.rate ∧ (returnGrant s).held = s.held ∧
    (returnGrant s).time = s.time ∧ (returnGrant s).status = s.status ∧ (returnGrant s).engine = s.engine ∧
    (returnGrant s).config = s.config ∧ (returnGrant s).notices = s.notices ∧
    (returnGrant s).pending = s.pending := by
  and_intros <;> (unfold returnGrant; (try dsimp only); repeat' (first | (simp; done) | split))

@[simp] theorem isolateForPending_keeps (tag : Tag) (s : State) :
    (isolateForPending tag s).segment = s.segment ∧ (isolateForPending tag s).rate = s.rate ∧
    (isolateForPending tag s).held = s.held ∧ (isolateForPending tag s).time = s.time ∧
    (isolateForPending tag s).config = s.config ∧ (isolateForPending tag s).notices = s.notices ∧
    (isolateForPending tag s).pending = s.pending := by
  simp [isolateForPending, isolate]

@[simp] theorem deliverToOwner_keeps (t : Txn) (result : DropResult) (s : State) :
    (deliverToOwner t result s).segment = s.segment ∧ (deliverToOwner t result s).rate = s.rate ∧
    (deliverToOwner t result s).held = s.held ∧ (deliverToOwner t result s).time = s.time ∧
    (deliverToOwner t result s).engine = s.engine ∧ (deliverToOwner t result s).config = s.config ∧
    (deliverToOwner t result s).pending = s.pending := by
  and_intros <;> (unfold deliverToOwner; (try dsimp only); repeat' (first | (simp; done) | split))

@[simp] theorem deliverToMonitor_keeps (t : Txn) (result : DropResult) (s : State) :
    (deliverToMonitor t result s).segment = s.segment ∧ (deliverToMonitor t result s).rate = s.rate ∧
    (deliverToMonitor t result s).held = s.held ∧ (deliverToMonitor t result s).time = s.time ∧
    (deliverToMonitor t result s).engine = s.engine ∧ (deliverToMonitor t result s).config = s.config ∧
    (deliverToMonitor t result s).pending = s.pending := by
  and_intros <;> (unfold deliverToMonitor; (try dsimp only); repeat' (first | (simp; done) | split))

@[simp] theorem leaveTransaction_keeps (s : State) :
    (leaveTransaction s).segment = s.segment ∧ (leaveTransaction s).rate = s.rate ∧
    (leaveTransaction s).held = s.held ∧ (leaveTransaction s).time = s.time ∧
    (leaveTransaction s).config = s.config ∧ (leaveTransaction s).notices = s.notices ∧
    (leaveTransaction s).pending = s.pending := by
  and_intros <;> (unfold leaveTransaction; (try dsimp only); repeat' (first | (simp; done) | split))

@[simp] theorem deliver_keeps (t : Txn) (result : DropResult) (s : State) :
    (deliver t result s).segment = s.segment ∧ (deliver t result s).rate = s.rate ∧
    (deliver t result s).held = s.held ∧ (deliver t result s).time = s.time ∧
    (deliver t result s).config = s.config ∧ (deliver t result s).pending = s.pending := by
  simp [deliver]

@[simp] theorem decideRetry_keeps (t : Txn) (result : DropResult) (s : State) :
    (decideRetry t result s).segment = s.segment ∧ (decideRetry t result s).rate = s.rate ∧
    (decideRetry t result s).held = s.held ∧ (decideRetry t result s).time = s.time ∧
    (decideRetry t result s).config = s.config ∧ (decideRetry t result s).pending = s.pending := by
  and_intros <;> (unfold decideRetry; (try dsimp only); repeat' (first | (simp; done) | split))

@[simp] theorem endCorrupt_keeps (t : Txn) (d : CorruptDetail) (s : State) :
    (endCorrupt t d s).segment = s.segment ∧ (endCorrupt t d s).rate = s.rate ∧ (endCorrupt t d s).held = s.held ∧
    (endCorrupt t d s).time = s.time ∧ (endCorrupt t d s).config = s.config ∧
    (endCorrupt t d s).pending = s.pending := by
  simp [endCorrupt]

@[simp] theorem endResponse_keeps (t : Txn) (result : DropResult) (s : State) :
    (endResponse t result s).segment = s.segment ∧ (endResponse t result s).rate = s.rate ∧
    (endResponse t result s).held = s.held ∧ (endResponse t result s).time = s.time ∧
    (endResponse t result s).config = s.config ∧ (endResponse t result s).pending = s.pending := by
  and_intros <;> (unfold endResponse; (try dsimp only); repeat' (first | (simp; done) | split))

@[simp] theorem takeFirst_keeps (ch : LineChar) (s : State) :
    (takeFirst ch s).segment = s.segment ∧ (takeFirst ch s).rate = s.rate ∧ (takeFirst ch s).held = s.held ∧
    (takeFirst ch s).time = s.time ∧ (takeFirst ch s).status = s.status ∧ (takeFirst ch s).pool = s.pool ∧
    (takeFirst ch s).monitor = s.monitor ∧ (takeFirst ch s).calendar = s.calendar ∧
    (takeFirst ch s).config = s.config ∧ (takeFirst ch s).trunk = s.trunk ∧ (takeFirst ch s).notices = s.notices ∧
    (takeFirst ch s).pending = s.pending := by
  and_intros <;> (unfold takeFirst; (try dsimp only); repeat' (first | (simp; done) | split))

@[simp] theorem takeNext_keeps (t : Txn) (ch : LineChar) (s : State) :
    (takeNext t ch s).segment = s.segment ∧ (takeNext t ch s).rate = s.rate ∧ (takeNext t ch s).held = s.held ∧
    (takeNext t ch s).time = s.time ∧ (takeNext t ch s).config = s.config ∧
    (takeNext t ch s).pending = s.pending := by
  and_intros <;> (unfold takeNext; (try dsimp only); repeat' (first | (simp; done) | split))

@[simp] theorem takeStray_keeps (s : State) :
    (takeStray s).segment = s.segment ∧ (takeStray s).rate = s.rate ∧ (takeStray s).held = s.held ∧
    (takeStray s).time = s.time ∧ (takeStray s).pool = s.pool ∧ (takeStray s).monitor = s.monitor ∧
    (takeStray s).calendar = s.calendar ∧ (takeStray s).config = s.config ∧ (takeStray s).trunk = s.trunk ∧
    (takeStray s).notices = s.notices ∧ (takeStray s).pending = s.pending := by
  simp [takeStray]

@[simp] theorem takeCharacter_keeps (ch : LineChar) (s : State) :
    (takeCharacter ch s).segment = s.segment ∧ (takeCharacter ch s).rate = s.rate ∧
    (takeCharacter ch s).held = s.held ∧ (takeCharacter ch s).time = s.time ∧
    (takeCharacter ch s).config = s.config ∧ (takeCharacter ch s).pending = s.pending := by
  and_intros <;> (unfold takeCharacter; (try dsimp only); repeat' (first | (simp; done) | split))

@[simp] theorem jamTransaction_keeps (s : State) :
    (jamTransaction s).segment = s.segment ∧ (jamTransaction s).rate = s.rate ∧ (jamTransaction s).held = s.held ∧
    (jamTransaction s).time = s.time ∧ (jamTransaction s).status = s.status ∧
    (jamTransaction s).engine = s.engine ∧ (jamTransaction s).config = s.config ∧
    (jamTransaction s).notices = s.notices ∧ (jamTransaction s).pending = s.pending := by
  and_intros <;> (unfold jamTransaction; (try dsimp only); repeat' (first | (simp; done) | split))

@[simp] theorem enterJammed_keeps (s : State) :
    (enterJammed s).segment = s.segment ∧ (enterJammed s).rate = s.rate ∧ (enterJammed s).held = s.held ∧
    (enterJammed s).time = s.time ∧ (enterJammed s).config = s.config ∧ (enterJammed s).pending = s.pending := by
  simp [enterJammed]

@[simp] theorem settle_keeps (s : State) :
    (settle s).segment = s.segment ∧ (settle s).rate = s.rate ∧ (settle s).held = s.held ∧
    (settle s).time = s.time ∧ (settle s).config = s.config ∧ (settle s).pending = s.pending := by
  simp [settle]

end Sys2Proof.Machine
end

