-- ==== Sys2Proof/Laws/Commands.lean ====
section
/-! SUPPORT. What the owners of requests, Intake and the events keep: one lemma for each. -/

namespace Sys2Proof.Machine

/-! ### Owners of management requests -/

@[simp] theorem ownEditOpen_keeps (f : ManageFrame) (s : State) :
    (ownEditOpen f s).segment = s.segment ∧ (ownEditOpen f s).rate = s.rate ∧ (ownEditOpen f s).held = s.held ∧
    (ownEditOpen f s).time = s.time ∧ (ownEditOpen f s).pool = s.pool ∧ (ownEditOpen f s).engine = s.engine ∧
    (ownEditOpen f s).monitor = s.monitor ∧ (ownEditOpen f s).calendar = s.calendar ∧
    (ownEditOpen f s).notices = s.notices ∧ (ownEditOpen f s).pending = s.pending := by
  and_intros <;> (unfold ownEditOpen; (try dsimp only); repeat' (first | (simp; done) | split))

@[simp] theorem ownEditClose_keeps (f : ManageFrame) (s : State) :
    (ownEditClose f s).segment = s.segment ∧ (ownEditClose f s).rate = s.rate ∧ (ownEditClose f s).held = s.held ∧
    (ownEditClose f s).time = s.time ∧ (ownEditClose f s).pool = s.pool ∧ (ownEditClose f s).engine = s.engine ∧
    (ownEditClose f s).monitor = s.monitor ∧ (ownEditClose f s).calendar = s.calendar ∧
    (ownEditClose f s).notices = s.notices ∧ (ownEditClose f s).pending = s.pending := by
  and_intros <;> (unfold ownEditClose; (try dsimp only); repeat' (first | (simp; done) | split))

@[simp] theorem ownEntryWrite_keeps (f : ManageFrame) (s : State) :
    (ownEntryWrite f s).segment = s.segment ∧ (ownEntryWrite f s).rate = s.rate ∧
    (ownEntryWrite f s).held = s.held ∧ (ownEntryWrite f s).time = s.time ∧ (ownEntryWrite f s).pool = s.pool ∧
    (ownEntryWrite f s).engine = s.engine ∧ (ownEntryWrite f s).monitor = s.monitor ∧
    (ownEntryWrite f s).calendar = s.calendar ∧ (ownEntryWrite f s).notices = s.notices ∧
    (ownEntryWrite f s).pending = s.pending := by
  and_intros <;> (unfold ownEntryWrite; (try dsimp only); repeat' (first | (simp; done) | split))

@[simp] theorem ownEntryRead_keeps (f : ManageFrame) (s : State) :
    (ownEntryRead f s).segment = s.segment ∧ (ownEntryRead f s).rate = s.rate ∧ (ownEntryRead f s).held = s.held ∧
    (ownEntryRead f s).time = s.time ∧ (ownEntryRead f s).pool = s.pool ∧ (ownEntryRead f s).engine = s.engine ∧
    (ownEntryRead f s).monitor = s.monitor ∧ (ownEntryRead f s).calendar = s.calendar ∧
    (ownEntryRead f s).notices = s.notices ∧ (ownEntryRead f s).pending = s.pending := by
  and_intros <;> (unfold ownEntryRead; (try dsimp only); repeat' (first | (simp; done) | split))

@[simp] theorem ownCommit_keeps (f : ManageFrame) (s : State) :
    (ownCommit f s).segment = s.segment ∧ (ownCommit f s).rate = s.rate ∧ (ownCommit f s).held = s.held ∧
    (ownCommit f s).time = s.time ∧ (ownCommit f s).pool = s.pool ∧ (ownCommit f s).engine = s.engine ∧
    (ownCommit f s).monitor = s.monitor ∧ (ownCommit f s).calendar = s.calendar ∧
    (ownCommit f s).notices = s.notices ∧ (ownCommit f s).pending = s.pending := by
  and_intros <;> (unfold ownCommit; (try dsimp only); repeat' (first | (simp; done) | split))

@[simp] theorem answerNode_keeps (f : ManageFrame) (n : NodeIx) (status : Status) (s : State) :
    (answerNode f n status s).segment = s.segment ∧ (answerNode f n status s).rate = s.rate ∧
    (answerNode f n status s).held = s.held ∧ (answerNode f n status s).time = s.time ∧
    (answerNode f n status s).pool = s.pool ∧ (answerNode f n status s).engine = s.engine ∧
    (answerNode f n status s).monitor = s.monitor ∧ (answerNode f n status s).calendar = s.calendar ∧
    (answerNode f n status s).config = s.config ∧ (answerNode f n status s).notices = s.notices ∧
    (answerNode f n status s).pending = s.pending := by
  and_intros <;> (unfold answerNode; (try dsimp only); repeat' (first | (simp; done) | split))

@[simp] theorem ownNodeRead_keeps (f : ManageFrame) (s : State) :
    (ownNodeRead f s).segment = s.segment ∧ (ownNodeRead f s).rate = s.rate ∧ (ownNodeRead f s).held = s.held ∧
    (ownNodeRead f s).time = s.time ∧ (ownNodeRead f s).pool = s.pool ∧ (ownNodeRead f s).engine = s.engine ∧
    (ownNodeRead f s).monitor = s.monitor ∧ (ownNodeRead f s).calendar = s.calendar ∧
    (ownNodeRead f s).config = s.config ∧ (ownNodeRead f s).notices = s.notices ∧
    (ownNodeRead f s).pending = s.pending := by
  and_intros <;> (unfold ownNodeRead; (try dsimp only); repeat' (first | (simp; done) | split))

@[simp] theorem ownNodeEnable_keeps (f : ManageFrame) (s : State) :
    (ownNodeEnable f s).segment = s.segment ∧ (ownNodeEnable f s).rate = s.rate ∧
    (ownNodeEnable f s).held = s.held ∧ (ownNodeEnable f s).time = s.time ∧ (ownNodeEnable f s).pool = s.pool ∧
    (ownNodeEnable f s).engine = s.engine ∧ (ownNodeEnable f s).calendar = s.calendar ∧
    (ownNodeEnable f s).config = s.config ∧ (ownNodeEnable f s).notices = s.notices ∧
    (ownNodeEnable f s).pending = s.pending := by
  and_intros <;> (unfold ownNodeEnable; (try dsimp only); repeat' (first | (simp; done) | split))

@[simp] theorem disableNode_keeps (n : NodeIx) (s : State) :
    (disableNode n s).segment = s.segment ∧ (disableNode n s).rate = s.rate ∧ (disableNode n s).held = s.held ∧
    (disableNode n s).time = s.time ∧ (disableNode n s).engine = s.engine ∧ (disableNode n s).config = s.config ∧
    (disableNode n s).notices = s.notices ∧ (disableNode n s).pending = s.pending := by
  simp [disableNode]

@[simp] theorem ownNodeDisable_keeps (f : ManageFrame) (s : State) :
    (ownNodeDisable f s).segment = s.segment ∧ (ownNodeDisable f s).rate = s.rate ∧
    (ownNodeDisable f s).held = s.held ∧ (ownNodeDisable f s).time = s.time ∧
    (ownNodeDisable f s).engine = s.engine ∧ (ownNodeDisable f s).config = s.config ∧
    (ownNodeDisable f s).notices = s.notices ∧ (ownNodeDisable f s).pending = s.pending := by
  and_intros <;> (unfold ownNodeDisable; (try dsimp only); repeat' (first | (simp; done) | split))

@[simp] theorem reviveOffline_keeps (f : ManageFrame) (n : NodeIx) (s : State) :
    (reviveOffline f n s).segment = s.segment ∧ (reviveOffline f n s).rate = s.rate ∧
    (reviveOffline f n s).held = s.held ∧ (reviveOffline f n s).time = s.time ∧
    (reviveOffline f n s).config = s.config ∧ (reviveOffline f n s).notices = s.notices ∧
    (reviveOffline f n s).pending = s.pending := by
  and_intros <;> (unfold reviveOffline; (try dsimp only); repeat' (first | (simp; done) | split))

@[simp] theorem ownNodeRevive_keeps (f : ManageFrame) (s : State) :
    (ownNodeRevive f s).segment = s.segment ∧ (ownNodeRevive f s).rate = s.rate ∧
    (ownNodeRevive f s).held = s.held ∧ (ownNodeRevive f s).time = s.time ∧
    (ownNodeRevive f s).config = s.config ∧ (ownNodeRevive f s).notices = s.notices ∧
    (ownNodeRevive f s).pending = s.pending := by
  and_intros <;> (unfold ownNodeRevive; (try dsimp only); repeat' (first | (simp; done) | split))

@[simp] theorem ownCellRead_keeps (f : ManageFrame) (s : State) :
    (ownCellRead f s).segment = s.segment ∧ (ownCellRead f s).rate = s.rate ∧ (ownCellRead f s).held = s.held ∧
    (ownCellRead f s).time = s.time ∧ (ownCellRead f s).pool = s.pool ∧ (ownCellRead f s).engine = s.engine ∧
    (ownCellRead f s).monitor = s.monitor ∧ (ownCellRead f s).calendar = s.calendar ∧
    (ownCellRead f s).config = s.config ∧ (ownCellRead f s).notices = s.notices ∧
    (ownCellRead f s).pending = s.pending := by
  and_intros <;> (unfold ownCellRead; (try dsimp only); repeat' (first | (simp; done) | split))

@[simp] theorem ownDropIsolate_keeps (f : ManageFrame) (s : State) :
    (ownDropIsolate f s).segment = s.segment ∧ (ownDropIsolate f s).rate = s.rate ∧
    (ownDropIsolate f s).held = s.held ∧ (ownDropIsolate f s).time = s.time ∧
    (ownDropIsolate f s).config = s.config ∧ (ownDropIsolate f s).notices = s.notices ∧
    (ownDropIsolate f s).pending = s.pending := by
  and_intros <;> (unfold ownDropIsolate; (try dsimp only); repeat' (first | (simp [isolate]; done) | split))

@[simp] theorem cancelIsolate_keeps (tag : Tag) (s : State) :
    (cancelIsolate tag s).segment = s.segment ∧ (cancelIsolate tag s).rate = s.rate ∧
    (cancelIsolate tag s).held = s.held ∧ (cancelIsolate tag s).time = s.time ∧
    (cancelIsolate tag s).pool = s.pool ∧ (cancelIsolate tag s).monitor = s.monitor ∧
    (cancelIsolate tag s).calendar = s.calendar ∧ (cancelIsolate tag s).config = s.config ∧
    (cancelIsolate tag s).notices = s.notices ∧ (cancelIsolate tag s).pending = s.pending := by
  simp [cancelIsolate]

@[simp] theorem cancelPending_keeps (s : State) :
    (cancelPending s).segment = s.segment ∧ (cancelPending s).rate = s.rate ∧
    (cancelPending s).held = s.held ∧ (cancelPending s).time = s.time ∧
    (cancelPending s).pool = s.pool ∧ (cancelPending s).monitor = s.monitor ∧
    (cancelPending s).calendar = s.calendar ∧ (cancelPending s).config = s.config ∧
    (cancelPending s).notices = s.notices ∧ (cancelPending s).pending = s.pending := by
  unfold cancelPending
  split <;> simp

@[simp] theorem ownDropResume_keeps (f : ManageFrame) (s : State) :
    (ownDropResume f s).segment = s.segment ∧ (ownDropResume f s).rate = s.rate ∧
    (ownDropResume f s).held = s.held ∧ (ownDropResume f s).time = s.time ∧
    (ownDropResume f s).config = s.config ∧ (ownDropResume f s).notices = s.notices ∧
    (ownDropResume f s).pending = s.pending := by
  and_intros <;> (unfold ownDropResume; (try dsimp only); repeat' (first | (simp; done) | split))

@[simp] theorem ownNoticeAck_keeps (f : ManageFrame) (s : State) :
    (ownNoticeAck f s).segment = s.segment ∧ (ownNoticeAck f s).rate = s.rate ∧ (ownNoticeAck f s).held = s.held ∧
    (ownNoticeAck f s).time = s.time ∧ (ownNoticeAck f s).pool = s.pool ∧ (ownNoticeAck f s).engine = s.engine ∧
    (ownNoticeAck f s).monitor = s.monitor ∧ (ownNoticeAck f s).calendar = s.calendar ∧
    (ownNoticeAck f s).config = s.config ∧ (ownNoticeAck f s).pending = s.pending := by
  and_intros <;> (unfold ownNoticeAck; (try dsimp only); repeat' (first | (simp; done) | split))

@[simp] theorem ownNoticeMask_keeps (f : ManageFrame) (s : State) :
    (ownNoticeMask f s).segment = s.segment ∧ (ownNoticeMask f s).rate = s.rate ∧
    (ownNoticeMask f s).held = s.held ∧ (ownNoticeMask f s).time = s.time ∧ (ownNoticeMask f s).pool = s.pool ∧
    (ownNoticeMask f s).engine = s.engine ∧ (ownNoticeMask f s).monitor = s.monitor ∧
    (ownNoticeMask f s).calendar = s.calendar ∧ (ownNoticeMask f s).config = s.config ∧
    (ownNoticeMask f s).pending = s.pending := by
  and_intros <;> (unfold ownNoticeMask; (try dsimp only); repeat' (first | (simp; done) | split))

@[simp] theorem ownClockRead_keeps (t : Arrival) (f : ManageFrame) (s : State) :
    (ownClockRead t f s).segment = s.segment ∧ (ownClockRead t f s).rate = s.rate ∧
    (ownClockRead t f s).held = s.held ∧ (ownClockRead t f s).time = s.time ∧ (ownClockRead t f s).pool = s.pool ∧
    (ownClockRead t f s).engine = s.engine ∧ (ownClockRead t f s).monitor = s.monitor ∧
    (ownClockRead t f s).calendar = s.calendar ∧ (ownClockRead t f s).config = s.config ∧
    (ownClockRead t f s).notices = s.notices ∧ (ownClockRead t f s).pending = s.pending := by
  and_intros <;> (unfold ownClockRead; (try dsimp only); repeat' (first | (simp; done) | split))

@[simp] theorem ownEpochSet_keeps (t : Arrival) (f : ManageFrame) (s : State) :
    (ownEpochSet t f s).segment = s.segment ∧ (ownEpochSet t f s).rate = s.rate ∧
    (ownEpochSet t f s).held = s.held ∧ (ownEpochSet t f s).pool = s.pool ∧
    (ownEpochSet t f s).engine = s.engine ∧ (ownEpochSet t f s).monitor = s.monitor ∧
    (ownEpochSet t f s).calendar = s.calendar ∧ (ownEpochSet t f s).config = s.config ∧
    (ownEpochSet t f s).notices = s.notices ∧ (ownEpochSet t f s).pending = s.pending := by
  and_intros <;> (unfold ownEpochSet; (try dsimp only); repeat' (first | (simp; done) | split))

@[simp] theorem ownStatusRead_keeps (f : ManageFrame) (s : State) :
    (ownStatusRead f s).segment = s.segment ∧ (ownStatusRead f s).rate = s.rate ∧
    (ownStatusRead f s).held = s.held ∧ (ownStatusRead f s).time = s.time ∧ (ownStatusRead f s).pool = s.pool ∧
    (ownStatusRead f s).engine = s.engine ∧ (ownStatusRead f s).monitor = s.monitor ∧
    (ownStatusRead f s).calendar = s.calendar ∧ (ownStatusRead f s).config = s.config ∧
    (ownStatusRead f s).notices = s.notices ∧ (ownStatusRead f s).pending = s.pending := by
  and_intros <;> (unfold ownStatusRead; (try dsimp only); repeat' (first | (simp; done) | split))

@[simp] theorem ownCountersRead_keeps (f : ManageFrame) (s : State) :
    (ownCountersRead f s).segment = s.segment ∧ (ownCountersRead f s).rate = s.rate ∧
    (ownCountersRead f s).held = s.held ∧ (ownCountersRead f s).time = s.time ∧
    (ownCountersRead f s).pool = s.pool ∧ (ownCountersRead f s).engine = s.engine ∧
    (ownCountersRead f s).monitor = s.monitor ∧ (ownCountersRead f s).calendar = s.calendar ∧
    (ownCountersRead f s).config = s.config ∧ (ownCountersRead f s).notices = s.notices ∧
    (ownCountersRead f s).pending = s.pending := by
  and_intros <;> (unfold ownCountersRead; (try dsimp only); repeat' (first | (simp; done) | split))

@[simp] theorem ownSegmentReset_keeps (f : ManageFrame) (s : State) :
    (ownSegmentReset f s).segment = s.segment ∧ (ownSegmentReset f s).rate = s.rate ∧
    (ownSegmentReset f s).held = s.held ∧ (ownSegmentReset f s).time = s.time ∧
    (ownSegmentReset f s).pending = s.pending := by
  simp [ownSegmentReset, raiseSoftReset]

@[simp] theorem broadcastSegmentReset_keeps (s : State) :
    (broadcastSegmentReset s).segment = s.segment ∧ (broadcastSegmentReset s).rate = s.rate ∧
    (broadcastSegmentReset s).held = s.held ∧ (broadcastSegmentReset s).time = s.time ∧
    (broadcastSegmentReset s).pending = s.pending := by
  simp [broadcastSegmentReset, raiseSoftReset]

/-! ### Intake -/

@[simp] theorem serveRead_keeps (f : RequestFrame) (i : CellIx) (s : State) :
    (serveRead f i s).segment = s.segment ∧ (serveRead f i s).rate = s.rate ∧ (serveRead f i s).held = s.held ∧
    (serveRead f i s).time = s.time ∧ (serveRead f i s).pool = s.pool ∧ (serveRead f i s).engine = s.engine ∧
    (serveRead f i s).monitor = s.monitor ∧ (serveRead f i s).calendar = s.calendar ∧
    (serveRead f i s).config = s.config ∧ (serveRead f i s).notices = s.notices ∧
    (serveRead f i s).pending = s.pending := by
  and_intros <;> (unfold serveRead; (try dsimp only); repeat' (first | (simp; done) | split))

@[simp] theorem raiseRefused_keeps (a : NodeAddr) (index : Nat) (s : State) :
    (raiseRefused a index s).segment = s.segment ∧ (raiseRefused a index s).rate = s.rate ∧
    (raiseRefused a index s).held = s.held ∧ (raiseRefused a index s).time = s.time ∧
    (raiseRefused a index s).status = s.status ∧ (raiseRefused a index s).pool = s.pool ∧
    (raiseRefused a index s).engine = s.engine ∧ (raiseRefused a index s).monitor = s.monitor ∧
    (raiseRefused a index s).calendar = s.calendar ∧ (raiseRefused a index s).config = s.config ∧
    (raiseRefused a index s).trunk = s.trunk ∧ (raiseRefused a index s).pending = s.pending := by
  simp [raiseRefused]

@[simp] theorem refuse_id_keeps (tag node : Byte) (status : Status) (detail : Byte) (s : State) :
    (refuse tag node status detail id s).segment = s.segment ∧
    (refuse tag node status detail id s).rate = s.rate ∧ (refuse tag node status detail id s).held = s.held ∧
    (refuse tag node status detail id s).time = s.time ∧ (refuse tag node status detail id s).pool = s.pool ∧
    (refuse tag node status detail id s).engine = s.engine ∧
    (refuse tag node status detail id s).monitor = s.monitor ∧
    (refuse tag node status detail id s).calendar = s.calendar ∧
    (refuse tag node status detail id s).config = s.config ∧
    (refuse tag node status detail id s).notices = s.notices ∧
    (refuse tag node status detail id s).pending = s.pending := by
  and_intros <;> (unfold refuse; split <;> simp)

@[simp] theorem refuse_raiseRefused_keeps (tag node : Byte) (status : Status) (detail : Byte) (a : NodeAddr) (index : Nat) (s : State) :
    (refuse tag node status detail (raiseRefused a index) s).segment = s.segment ∧
    (refuse tag node status detail (raiseRefused a index) s).rate = s.rate ∧
    (refuse tag node status detail (raiseRefused a index) s).held = s.held ∧
    (refuse tag node status detail (raiseRefused a index) s).time = s.time ∧
    (refuse tag node status detail (raiseRefused a index) s).pool = s.pool ∧
    (refuse tag node status detail (raiseRefused a index) s).engine = s.engine ∧
    (refuse tag node status detail (raiseRefused a index) s).monitor = s.monitor ∧
    (refuse tag node status detail (raiseRefused a index) s).calendar = s.calendar ∧
    (refuse tag node status detail (raiseRefused a index) s).config = s.config ∧
    (refuse tag node status detail (raiseRefused a index) s).pending = s.pending := by
  and_intros <;> (unfold refuse; split <;> simp)

@[simp] theorem admitOrRefuse_keeps (op : Op) (f : RequestFrame) (cls : Class) (s : State) :
    (admitOrRefuse op f cls s).segment = s.segment ∧ (admitOrRefuse op f cls s).rate = s.rate ∧
    (admitOrRefuse op f cls s).held = s.held ∧ (admitOrRefuse op f cls s).time = s.time ∧
    (admitOrRefuse op f cls s).config = s.config ∧ (admitOrRefuse op f cls s).notices = s.notices ∧
    (admitOrRefuse op f cls s).pending = s.pending := by
  and_intros <;> (unfold admitOrRefuse; (try dsimp only); repeat' (first | (simp; done) | split))

@[simp] theorem intakeRequest_keeps (op : Op) (f : RequestFrame) (s : State) :
    (intakeRequest op f s).segment = s.segment ∧ (intakeRequest op f s).rate = s.rate ∧
    (intakeRequest op f s).held = s.held ∧ (intakeRequest op f s).time = s.time ∧
    (intakeRequest op f s).config = s.config ∧ (intakeRequest op f s).pending = s.pending := by
  and_intros <;> (unfold intakeRequest; (try dsimp only); repeat' (first | (simp; done) | split))

@[simp] theorem intakeBroadcastWrite_keeps (f : RequestFrame) (s : State) :
    (intakeBroadcastWrite f s).segment = s.segment ∧ (intakeBroadcastWrite f s).rate = s.rate ∧
    (intakeBroadcastWrite f s).held = s.held ∧ (intakeBroadcastWrite f s).time = s.time ∧
    (intakeBroadcastWrite f s).config = s.config ∧ (intakeBroadcastWrite f s).pending = s.pending := by
  and_intros <;> (unfold intakeBroadcastWrite; (try dsimp only); repeat' (first | (simp; done) | split))

@[simp] theorem withdrawCommit_keeps (id : Byte) (tag : Tag) (s : State) :
    (withdrawCommit id tag s).segment = s.segment ∧ (withdrawCommit id tag s).rate = s.rate ∧
    (withdrawCommit id tag s).held = s.held ∧ (withdrawCommit id tag s).time = s.time ∧
    (withdrawCommit id tag s).pool = s.pool ∧ (withdrawCommit id tag s).engine = s.engine ∧
    (withdrawCommit id tag s).monitor = s.monitor ∧ (withdrawCommit id tag s).calendar = s.calendar ∧
    (withdrawCommit id tag s).notices = s.notices ∧ (withdrawCommit id tag s).pending = s.pending := by
  and_intros <;> (unfold withdrawCommit; (try dsimp only); repeat' (first | (simp; done) | split))

@[simp] theorem abortEffect_keeps (f : AbortFrame) (s : State) :
    (abortEffect f s).segment = s.segment ∧ (abortEffect f s).rate = s.rate ∧ (abortEffect f s).held = s.held ∧
    (abortEffect f s).time = s.time ∧ (abortEffect f s).engine = s.engine ∧
    (abortEffect f s).monitor = s.monitor ∧ (abortEffect f s).notices = s.notices ∧
    (abortEffect f s).pending = s.pending := by
  and_intros <;> (unfold abortEffect; (try dsimp only); repeat' (first | (simp; done) | split))

@[simp] theorem intakeAbort_keeps (f : AbortFrame) (s : State) :
    (intakeAbort f s).segment = s.segment ∧ (intakeAbort f s).rate = s.rate ∧ (intakeAbort f s).held = s.held ∧
    (intakeAbort f s).time = s.time ∧ (intakeAbort f s).engine = s.engine ∧
    (intakeAbort f s).monitor = s.monitor ∧ (intakeAbort f s).pending = s.pending := by
  and_intros <;> (unfold intakeAbort; (try dsimp only); repeat' (first | (simp; done) | split))

/-- A field that no reply, no counter and no decision of the A-transmit arbiter changes, and that the owner keeps, is
kept by the checks of R103. -/
theorem manageChecks_keeps {β : Type} (g : State → β) (hA : ∀ s, g (decideA s) = g s)
    (hc : ∀ c s, g (bump c s) = g s) (hr : ∀ f st d b s, g (reply f st d b s) = g s) (f : ManageFrame)
    {rest : State → State} (hk : ∀ s, g (rest s) = g s) (s : State) : g (manageChecks f rest s) = g s := by
  unfold manageChecks
  rw [hA]
  split
  · exact hc _ _
  · split
    · exact hr _ _ _ _ _
    · split
      · exact hr _ _ _ _ _
      · exact hk s

/-- What a command keeps: the clock's advance and its own effect, unless the controller is held in reset. -/
theorem running_keeps {β : Type} (g : State → β) (us : Nat) (ha : ∀ s, g (advance us s) = g s) {k : State → State}
    (hk : ∀ s, g (k s) = g s) (s : State) : g (running us k s) = g s := by
  unfold running
  split
  · rfl
  · rw [hk, ha]

/-- What a frame for this segment keeps: what the clock, the counters, the DOWN relay and Intake keep. -/
theorem takeDirect_keeps {β : Type} (g : State → β) (t : Arrival) (p : Downstream)
    (ha : ∀ us s, g (advance us s) = g s) (hc : ∀ c s, g (bump c s) = g s)
    (hd : ∀ b i s, g (relayDown b i s) = g s) {k : State → State} (hk : ∀ s, g (k s) = g s) (s : State) :
    g (takeDirect t p k s) = g s := by
  unfold takeDirect
  refine running_keeps g _ (ha _) (fun s => ?_) s
  split
  · rfl
  · split
    · exact hc _ _
    · split
      · rw [hd, hc]
      · rw [hk, hc]

/-- What a segment-15 frame keeps: what the clock, the counters, the DOWN relay and Intake keep. -/
theorem takeBroadcast_keeps {β : Type} (g : State → β) (t : Arrival) (p : Downstream)
    (ha : ∀ us s, g (advance us s) = g s) (hc : ∀ c s, g (bump c s) = g s)
    (hd : ∀ b i s, g (relayDown b i s) = g s) {k : State → State} (hk : ∀ s, g (k s) = g s) (s : State) :
    g (takeBroadcast t p k s) = g s := by
  unfold takeBroadcast
  refine running_keeps g _ (ha _) (fun s => ?_) s
  split
  · rfl
  · split
    · exact hc _ _
    · split
      · rw [hd, hc]
      · rw [hk, hd, hc]

/-! ### Events -/

@[simp] theorem guardSilence_keeps (s : State) :
    (guardSilence s).segment = s.segment ∧ (guardSilence s).rate = s.rate ∧ (guardSilence s).held = s.held ∧
    (guardSilence s).time = s.time ∧ (guardSilence s).monitor = s.monitor ∧
    (guardSilence s).calendar = s.calendar ∧ (guardSilence s).config = s.config ∧
    (guardSilence s).trunk = s.trunk ∧ (guardSilence s).notices = s.notices ∧
    (guardSilence s).pending = s.pending := by
  and_intros <;> (unfold guardSilence; (try dsimp only); repeat' (first | (simp; done) | split))

@[simp] theorem busyInGuard_keeps (s : State) :
    (busyInGuard s).segment = s.segment ∧ (busyInGuard s).rate = s.rate ∧ (busyInGuard s).held = s.held ∧
    (busyInGuard s).time = s.time ∧ (busyInGuard s).config = s.config ∧ (busyInGuard s).pending = s.pending := by
  and_intros <;> (unfold busyInGuard; (try dsimp only); repeat' (first | (simp; done) | split))

@[simp] theorem markSent_keeps (t : Txn) (s : State) :
    (markSent t s).segment = s.segment ∧ (markSent t s).rate = s.rate ∧ (markSent t s).held = s.held ∧
    (markSent t s).time = s.time ∧ (markSent t s).status = s.status ∧ (markSent t s).engine = s.engine ∧
    (markSent t s).monitor = s.monitor ∧ (markSent t s).calendar = s.calendar ∧ (markSent t s).config = s.config ∧
    (markSent t s).trunk = s.trunk ∧ (markSent t s).notices = s.notices ∧ (markSent t s).pending = s.pending := by
  and_intros <;> (unfold markSent; (try dsimp only); repeat' (first | (simp; done) | split))

@[simp] theorem requestSent_keeps (t : Txn) (s : State) :
    (requestSent t s).segment = s.segment ∧ (requestSent t s).rate = s.rate ∧ (requestSent t s).held = s.held ∧
    (requestSent t s).time = s.time ∧ (requestSent t s).config = s.config ∧ (requestSent t s).pending = s.pending := by
  and_intros <;> (unfold requestSent; (try dsimp only); repeat' (first | (simp; done) | split))

@[simp] theorem frameSent_keeps (s : State) :
    (frameSent s).segment = s.segment ∧ (frameSent s).rate = s.rate ∧ (frameSent s).held = s.held ∧
    (frameSent s).time = s.time ∧ (frameSent s).config = s.config ∧ (frameSent s).pending = s.pending := by
  and_intros <;> (unfold frameSent; (try dsimp only); repeat' (first | (simp; done) | split))

@[simp] theorem characterEnds_keeps (ch : LineChar) (s : State) :
    (characterEnds ch s).segment = s.segment ∧ (characterEnds ch s).rate = s.rate ∧
    (characterEnds ch s).held = s.held ∧ (characterEnds ch s).time = s.time ∧
    (characterEnds ch s).config = s.config ∧ (characterEnds ch s).pending = s.pending := by
  and_intros <;> (unfold characterEnds; (try dsimp only); repeat' (first | (simp; done) | split))

@[simp] theorem deadlineReached_keeps (s : State) :
    (deadlineReached s).segment = s.segment ∧ (deadlineReached s).rate = s.rate ∧
    (deadlineReached s).held = s.held ∧ (deadlineReached s).time = s.time ∧
    (deadlineReached s).config = s.config ∧ (deadlineReached s).pending = s.pending := by
  and_intros <;> (unfold deadlineReached; (try dsimp only); repeat' (first | (simp; done) | split))

@[simp] theorem truncated_keeps (s : State) :
    (truncated s).segment = s.segment ∧ (truncated s).rate = s.rate ∧ (truncated s).held = s.held ∧
    (truncated s).time = s.time ∧ (truncated s).config = s.config ∧ (truncated s).pending = s.pending := by
  and_intros <;> (unfold truncated; (try dsimp only); repeat' (first | (simp; done) | split))

@[simp] theorem endDiscard_keeps (due : State → Bool) (s : State) :
    (endDiscard due s).segment = s.segment ∧ (endDiscard due s).rate = s.rate ∧ (endDiscard due s).held = s.held ∧
    (endDiscard due s).time = s.time ∧ (endDiscard due s).config = s.config ∧
    (endDiscard due s).pending = s.pending := by
  and_intros <;> (unfold endDiscard; (try dsimp only); repeat' (first | (simp; done) | split))

@[simp] theorem leaveJammed_keeps (s : State) :
    (leaveJammed s).segment = s.segment ∧ (leaveJammed s).rate = s.rate ∧ (leaveJammed s).held = s.held ∧
    (leaveJammed s).time = s.time ∧ (leaveJammed s).pool = s.pool ∧ (leaveJammed s).monitor = s.monitor ∧
    (leaveJammed s).calendar = s.calendar ∧ (leaveJammed s).config = s.config ∧ (leaveJammed s).trunk = s.trunk ∧
    (leaveJammed s).pending = s.pending := by
  simp [leaveJammed]

@[simp] theorem jamSilence_keeps (s : State) :
    (jamSilence s).segment = s.segment ∧ (jamSilence s).rate = s.rate ∧ (jamSilence s).held = s.held ∧
    (jamSilence s).time = s.time ∧ (jamSilence s).config = s.config ∧ (jamSilence s).pending = s.pending := by
  and_intros <;> (unfold jamSilence; (try dsimp only); repeat' (first | (simp; done) | split))

@[simp] theorem leaveTail_keeps (s : State) :
    (leaveTail s).segment = s.segment ∧ (leaveTail s).rate = s.rate ∧ (leaveTail s).held = s.held ∧
    (leaveTail s).time = s.time ∧ (leaveTail s).config = s.config ∧ (leaveTail s).pending = s.pending := by
  and_intros <;> (unfold leaveTail; (try dsimp only); repeat' (first | (simp; done) | split))

@[simp] theorem tailEnd_keeps (s : State) :
    (tailEnd s).segment = s.segment ∧ (tailEnd s).rate = s.rate ∧ (tailEnd s).held = s.held ∧
    (tailEnd s).time = s.time ∧ (tailEnd s).config = s.config ∧ (tailEnd s).pending = s.pending := by
  and_intros <;> (unfold tailEnd; (try dsimp only); repeat' (first | (simp; done) | split))

@[simp] theorem applyCommit_keeps (tag : Tag) (s : State) :
    (applyCommit tag s).segment = s.segment ∧ (applyCommit tag s).rate = s.rate ∧
    (applyCommit tag s).held = s.held ∧ (applyCommit tag s).time = s.time ∧
    (applyCommit tag s).engine = s.engine ∧ (applyCommit tag s).pending = s.pending := by
  simp [applyCommit]

@[simp] theorem applyPending_keeps (s : State) :
    (applyPending s).segment = s.segment ∧ (applyPending s).rate = s.rate ∧ (applyPending s).held = s.held ∧
    (applyPending s).time = s.time ∧ (applyPending s).engine = s.engine ∧
    (applyPending s).pending = s.pending := by
  and_intros <;> (unfold applyPending; (try dsimp only); repeat' (first | (simp; done) | split))

@[simp] theorem boundary_keeps (s : State) :
    (boundary s).segment = s.segment ∧ (boundary s).rate = s.rate ∧ (boundary s).held = s.held ∧
    (boundary s).time = s.time ∧ (boundary s).engine = s.engine ∧ (boundary s).pending = s.pending := by
  simp [boundary]

@[simp] theorem boundaryReached_keeps (s : State) :
    (boundaryReached s).segment = s.segment ∧ (boundaryReached s).rate = s.rate ∧
    (boundaryReached s).held = s.held ∧ (boundaryReached s).time = s.time ∧
    (boundaryReached s).pending = s.pending := by
  and_intros <;> (unfold boundaryReached; (try dsimp only); repeat' (first | (simp; done) | split))

@[simp] theorem freshnessPast_keeps (i : CellIx) (s : State) :
    (freshnessPast i s).segment = s.segment ∧ (freshnessPast i s).rate = s.rate ∧
    (freshnessPast i s).held = s.held ∧ (freshnessPast i s).time = s.time ∧
    (freshnessPast i s).status = s.status ∧ (freshnessPast i s).pool = s.pool ∧
    (freshnessPast i s).engine = s.engine ∧ (freshnessPast i s).monitor = s.monitor ∧
    (freshnessPast i s).config = s.config ∧ (freshnessPast i s).trunk = s.trunk ∧
    (freshnessPast i s).notices = s.notices ∧ (freshnessPast i s).pending = s.pending := by
  and_intros <;> (unfold freshnessPast; (try dsimp only); repeat' (first | (simp; done) | split))

@[simp] theorem probeDueReached_keeps (n : NodeIx) (s : State) :
    (probeDueReached n s).segment = s.segment ∧ (probeDueReached n s).rate = s.rate ∧
    (probeDueReached n s).held = s.held ∧ (probeDueReached n s).time = s.time ∧
    (probeDueReached n s).config = s.config ∧ (probeDueReached n s).pending = s.pending := by
  and_intros <;> (unfold probeDueReached; (try dsimp only); repeat' (first | (simp; done) | split))

@[simp] theorem expireSession_keeps (id : Byte) (s : State) :
    (expireSession id s).segment = s.segment ∧ (expireSession id s).rate = s.rate ∧
    (expireSession id s).held = s.held ∧ (expireSession id s).time = s.time ∧
    (expireSession id s).status = s.status ∧ (expireSession id s).pool = s.pool ∧
    (expireSession id s).engine = s.engine ∧ (expireSession id s).monitor = s.monitor ∧
    (expireSession id s).calendar = s.calendar ∧ (expireSession id s).trunk = s.trunk ∧
    (expireSession id s).pending = s.pending := by
  simp [expireSession]

@[simp] theorem sessionExpiry_keeps (s : State) :
    (sessionExpiry s).segment = s.segment ∧ (sessionExpiry s).rate = s.rate ∧ (sessionExpiry s).held = s.held ∧
    (sessionExpiry s).time = s.time ∧ (sessionExpiry s).status = s.status ∧ (sessionExpiry s).engine = s.engine ∧
    (sessionExpiry s).monitor = s.monitor ∧ (sessionExpiry s).calendar = s.calendar ∧
    (sessionExpiry s).pending = s.pending := by
  and_intros <;> (unfold sessionExpiry; (try dsimp only); repeat' (first | (simp; done) | split))

@[simp] theorem resendExpiry_keeps (s : State) :
    (resendExpiry s).segment = s.segment ∧ (resendExpiry s).rate = s.rate ∧ (resendExpiry s).held = s.held ∧
    (resendExpiry s).time = s.time ∧ (resendExpiry s).status = s.status ∧ (resendExpiry s).engine = s.engine ∧
    (resendExpiry s).monitor = s.monitor ∧ (resendExpiry s).calendar = s.calendar ∧
    (resendExpiry s).config = s.config ∧ (resendExpiry s).pending = s.pending := by
  and_intros <;> (unfold resendExpiry; (try dsimp only); repeat' (first | (simp; done) | split))

@[simp] theorem linkAUp_keeps (s : State) :
    (linkAUp s).segment = s.segment ∧ (linkAUp s).rate = s.rate ∧ (linkAUp s).held = s.held ∧
    (linkAUp s).time = s.time ∧ (linkAUp s).status = s.status ∧ (linkAUp s).engine = s.engine ∧
    (linkAUp s).monitor = s.monitor ∧ (linkAUp s).calendar = s.calendar ∧ (linkAUp s).config = s.config ∧
    (linkAUp s).pending = s.pending := by
  and_intros <;> (unfold linkAUp; (try dsimp only); repeat' (first | (simp; done) | split))

@[simp] theorem linkADown_keeps (s : State) :
    (linkADown s).segment = s.segment ∧ (linkADown s).rate = s.rate ∧ (linkADown s).held = s.held ∧
    (linkADown s).time = s.time ∧ (linkADown s).status = s.status ∧ (linkADown s).pool = s.pool ∧
    (linkADown s).engine = s.engine ∧ (linkADown s).monitor = s.monitor ∧ (linkADown s).calendar = s.calendar ∧
    (linkADown s).config = s.config ∧ (linkADown s).pending = s.pending := by
  and_intros <;> (unfold linkADown; (try dsimp only); repeat' (first | (simp; done) | split))

@[simp] theorem linkBUp_keeps (s : State) :
    (linkBUp s).segment = s.segment ∧ (linkBUp s).rate = s.rate ∧ (linkBUp s).held = s.held ∧
    (linkBUp s).time = s.time ∧ (linkBUp s).status = s.status ∧ (linkBUp s).pool = s.pool ∧
    (linkBUp s).engine = s.engine ∧ (linkBUp s).monitor = s.monitor ∧ (linkBUp s).calendar = s.calendar ∧
    (linkBUp s).config = s.config ∧ (linkBUp s).notices = s.notices ∧ (linkBUp s).pending = s.pending := by
  and_intros <;> (unfold linkBUp; (try dsimp only); repeat' (first | (simp; done) | split))

@[simp] theorem linkBDown_keeps (s : State) :
    (linkBDown s).segment = s.segment ∧ (linkBDown s).rate = s.rate ∧ (linkBDown s).held = s.held ∧
    (linkBDown s).time = s.time ∧ (linkBDown s).pool = s.pool ∧ (linkBDown s).engine = s.engine ∧
    (linkBDown s).monitor = s.monitor ∧ (linkBDown s).calendar = s.calendar ∧ (linkBDown s).config = s.config ∧
    (linkBDown s).notices = s.notices ∧ (linkBDown s).pending = s.pending := by
  and_intros <;> (unfold linkBDown; (try dsimp only); repeat' (first | (simp; done) | split))

@[simp] theorem transmissionBEnds_keeps (s : State) :
    (transmissionBEnds s).segment = s.segment ∧ (transmissionBEnds s).rate = s.rate ∧
    (transmissionBEnds s).held = s.held ∧ (transmissionBEnds s).time = s.time ∧
    (transmissionBEnds s).pool = s.pool ∧ (transmissionBEnds s).engine = s.engine ∧
    (transmissionBEnds s).monitor = s.monitor ∧ (transmissionBEnds s).calendar = s.calendar ∧
    (transmissionBEnds s).config = s.config ∧ (transmissionBEnds s).notices = s.notices ∧
    (transmissionBEnds s).pending = s.pending := by
  and_intros <;> (unfold transmissionBEnds; (try dsimp only); repeat' (first | (simp; done) | split))

@[simp] theorem upstreamSent_keeps (s : State) :
    (upstreamSent s).segment = s.segment ∧ (upstreamSent s).rate = s.rate ∧ (upstreamSent s).held = s.held ∧
    (upstreamSent s).time = s.time ∧ (upstreamSent s).status = s.status ∧ (upstreamSent s).engine = s.engine ∧
    (upstreamSent s).monitor = s.monitor ∧ (upstreamSent s).calendar = s.calendar ∧
    (upstreamSent s).config = s.config ∧ (upstreamSent s).notices = s.notices ∧
    (upstreamSent s).pending = s.pending := by
  and_intros <;> (unfold upstreamSent; (try dsimp only); repeat' (first | (simp; done) | split))

@[simp] theorem noticeSent_keeps (s : State) :
    (noticeSent s).segment = s.segment ∧ (noticeSent s).rate = s.rate ∧ (noticeSent s).held = s.held ∧
    (noticeSent s).time = s.time ∧ (noticeSent s).pool = s.pool ∧ (noticeSent s).engine = s.engine ∧
    (noticeSent s).monitor = s.monitor ∧ (noticeSent s).calendar = s.calendar ∧ (noticeSent s).config = s.config ∧
    (noticeSent s).trunk = s.trunk ∧ (noticeSent s).pending = s.pending := by
  and_intros <;> (unfold noticeSent; (try dsimp only); repeat' (first | (simp; done) | split))

@[simp] theorem completeA_keeps (tx : ATransmission) (s : State) :
    (completeA tx s).segment = s.segment ∧ (completeA tx s).rate = s.rate ∧ (completeA tx s).held = s.held ∧
    (completeA tx s).time = s.time ∧ (completeA tx s).engine = s.engine ∧ (completeA tx s).monitor = s.monitor ∧
    (completeA tx s).calendar = s.calendar ∧ (completeA tx s).config = s.config ∧
    (completeA tx s).pending = s.pending := by
  and_intros <;> (unfold completeA; (try dsimp only); repeat' (first | (simp; done) | split))

@[simp] theorem transmissionAEnds_keeps (s : State) :
    (transmissionAEnds s).segment = s.segment ∧ (transmissionAEnds s).rate = s.rate ∧
    (transmissionAEnds s).held = s.held ∧ (transmissionAEnds s).time = s.time ∧
    (transmissionAEnds s).engine = s.engine ∧ (transmissionAEnds s).monitor = s.monitor ∧
    (transmissionAEnds s).calendar = s.calendar ∧ (transmissionAEnds s).config = s.config ∧
    (transmissionAEnds s).pending = s.pending := by
  and_intros <;> (unfold transmissionAEnds; (try dsimp only); repeat' (first | (simp; done) | split))

@[simp] theorem takeB_keeps (f : RawFrame) (s : State) :
    (takeB f s).segment = s.segment ∧ (takeB f s).rate = s.rate ∧ (takeB f s).held = s.held ∧
    (takeB f s).time = s.time ∧ (takeB f s).engine = s.engine ∧ (takeB f s).monitor = s.monitor ∧
    (takeB f s).calendar = s.calendar ∧ (takeB f s).config = s.config ∧ (takeB f s).pending = s.pending := by
  and_intros <;> (unfold takeB; (try dsimp only); repeat' (first | (simp; done) | split))

end Sys2Proof.Machine
end

