-- ==== Sys2Proof/Laws/Intake.lean ====
section
/-! SUPPORT. How a frame reaches Intake: the length of its bytes, the state in which it is decided, and what its checks read
there. -/

namespace Sys2Proof.Machine

/-! ### Lengths (R128 to R131) -/

@[simp] theorem be16_length (w : BitVec 16) : (be16 w).length = 2 := rfl

@[simp] theorem be32_length (w : BitVec 32) : (be32 w).length = 4 := rfl

@[simp] theorem be48_length (w : BitVec 48) : (be48 w).length = 6 := rfl

@[simp] theorem withCheck_length (bytes : List Byte) : (withCheck bytes).length = bytes.length + 2 := by
  simp [withCheck]

/-- A frame's length does not depend on its segment number. -/
theorem downstreamBytes_length (a b : Fin 16) (p : Downstream) :
    (downstreamBytes a p).length = (downstreamBytes b p).length := by
  cases p <;> simp [downstreamBytes, downstreamCovered]

/-- A READ or WRITE that passes its form check is at most 73 bytes long (R92). -/
theorem requestFormed_length {op : Op} {f : RequestFrame} (h : requestFormFault op f = none) (a : Fin 16) :
    (downstreamBytes a (.request op f)).length ≤ 96 := by
  have ht : f.tail.length = impliedTail op f := by
    unfold requestFormFault at h
    by_contra hne
    simp [hne] at h
  have hc : countOf f ≤ 32 := by
    unfold requestFormFault at h
    by_contra hne
    have : 32 < countOf f := by omega
    simp only [this, if_true] at h
    revert h
    repeat' split
    all_goals simp
  have : impliedTail op f ≤ 64 := by
    cases op <;> simp only [impliedTail]
    · split <;> omega
    · omega
  simp [downstreamBytes, downstreamCovered]
  omega

theorem abortFormed_length {f : AbortFrame} (h : abortFormFault f = none) (a : Fin 16) :
    (downstreamBytes a (.abort f)).length ≤ 96 := by
  have ht : f.tail = [] := by
    unfold abortFormFault at h
    by_contra hne
    simp [hne] at h
  simp [downstreamBytes, downstreamCovered, ht]

theorem manage_length (code : Byte) (f : ManageFrame) (a : Fin 16) (h : f.args.length ≤ 88) :
    (downstreamBytes a (.manage code f)).length ≤ 96 := by
  simp [downstreamBytes, downstreamCovered]
  omega

theorem ManageCode.argLength_le (code : ManageCode) : code.argLength ≤ 16 := by
  cases code <;> decide

theorem fits_length {p : Downstream} (h : Sys2Proof.Downstream.fits p = true) (a : Fin 16) :
    (downstreamBytes a p).length ≤ 96 := by
  rw [downstreamBytes_length a 0]
  exact of_decide_eq_true h

/-! ### The state in which a frame is decided (R144, R145) -/

@[simp] theorem atFrame_keeps (t : Arrival) (s : State) :
    (s.atFrame t).segment = s.segment ∧ (s.atFrame t).rate = s.rate ∧ (s.atFrame t).held = s.held ∧
    (s.atFrame t).pool = s.pool ∧ (s.atFrame t).engine = s.engine ∧ (s.atFrame t).monitor = s.monitor ∧
    (s.atFrame t).calendar = s.calendar ∧ (s.atFrame t).config = s.config ∧ (s.atFrame t).trunk = s.trunk ∧
    (s.atFrame t).notices = s.notices ∧ (s.atFrame t).pending = s.pending ∧
    (s.atFrame t).time.epoch = s.time.epoch := by
  and_intros <;> rfl

@[simp] theorem atFrame_status (t : Arrival) (s : State) :
    (s.atFrame t).status.snapshot = s.status.snapshot ∧ (s.atFrame t).status.snapshotAt = s.status.snapshotAt ∧
    (s.atFrame t).status.resetCause = s.status.resetCause ∧ (s.atFrame t).status.indLine = s.status.indLine ∧
    (s.atFrame t).status.indNode = s.status.indNode := by
  and_intros <;> rfl

theorem atFrame_clock (t : Arrival) (s : State) :
    (s.atFrame t).time.clock = s.time.clock + BitVec.ofNat 48 t.elapsed := rfl

@[simp] theorem repeater_atFrame (t : Arrival) (s : State) : (s.atFrame t).repeater = s.repeater := rfl

@[simp] theorem placesFull_atFrame (t : Arrival) (s : State) : placesFull (s.atFrame t) = placesFull s := rfl

@[simp] theorem tagInUse_atFrame (t : Arrival) (tag : Tag) (s : State) : tagInUse (s.atFrame t) tag = tagInUse s tag :=
  rfl

@[simp] theorem slotOfTag_atFrame (t : Arrival) (tag : Tag) (s : State) :
    slotOfTag (s.atFrame t) tag = slotOfTag s tag := rfl

@[simp] theorem healthOf_atFrame (t : Arrival) (a : NodeAddr) (s : State) : healthOf (s.atFrame t) a = healthOf s a :=
  rfl

@[simp] theorem hasRoom_atFrame (t : Arrival) (cls : Class) (s : State) : hasRoom (s.atFrame t) cls = hasRoom s cls := by
  cases cls <;> rfl

@[simp] theorem lineRefusal_atFrame (t : Arrival) (a : NodeAddr) (cls : Class) (s : State) :
    lineRefusal (s.atFrame t) a cls = lineRefusal s a cls := by
  simp only [lineRefusal, portRefusal, nodeRefusal, atFrame_keeps, healthOf_atFrame, hasRoom_atFrame]

/-- The arrival instant is read from the state in which the frame is decided (R144). -/
theorem arrivalInstant_atFrame (t : Arrival) (s : State) : arrivalInstant t (s.atFrame t) = s.arrival t := rfl

/-- A direct frame of at most 96 bytes is handed to Intake by a serving controller (R88). -/
theorem takeDirect_of_serving {t : Arrival} {p : Downstream} {s : State} (intake : State → State) (h : Serving s)
    (hl : (downstreamBytes s.segment p).length ≤ 96) :
    takeDirect t p intake s = intake (s.atFrame t) := by
  obtain ⟨h1, h2, h3⟩ := h
  have hl' : ¬ Config.maxTrunkFrame < (downstreamBytes s.segment p).length := by simpa [Config.maxTrunkFrame] using hl
  have h3' : (advance t.elapsed s).repeater = false := h3
  simp only [takeDirect, running, h1, Option.isSome_none, Bool.false_eq_true, if_false, advance_keeps, h2, hl', h3']
  rfl

/-- A segment-15 frame of at most 96 bytes is relayed and handed to Intake by a serving controller (R88, R146). -/
theorem takeBroadcast_of_serving {t : Arrival} {p : Downstream} {s : State} (intake : State → State) (h : Serving s)
    (hl : (downstreamBytes 15 p).length ≤ 96) :
    takeBroadcast t p intake s = intake (s.atBroadcast t p) := by
  obtain ⟨h1, h2, h3⟩ := h
  have hl' : ¬ Config.maxTrunkFrame < (downstreamBytes Config.repeaterStrap p).length := by
    simpa [Config.maxTrunkFrame, Config.repeaterStrap] using hl
  have h3' : (advance t.elapsed s).repeater = false := h3
  simp only [takeBroadcast, running, h1, Option.isSome_none, Bool.false_eq_true, if_false, advance_keeps, h2, hl', h3']
  rfl

/-! ### What a relayed broadcast leaves to the checks (R146) -/

@[simp] theorem atBroadcast_keeps (t : Arrival) (p : Downstream) (s : State) :
    (s.atBroadcast t p).segment = s.segment ∧ (s.atBroadcast t p).pool = s.pool ∧
    (s.atBroadcast t p).engine = s.engine ∧ (s.atBroadcast t p).monitor = s.monitor ∧
    (s.atBroadcast t p).calendar = s.calendar ∧ (s.atBroadcast t p).config = s.config ∧
    (s.atBroadcast t p).time = (s.atFrame t).time := by
  simp [State.atBroadcast]

/-- The tag map reads the pool, the session and the pending isolate alone (R4). -/
theorem tagInUse_congr {s u : State} (hp : u.pool = s.pool) (hc : u.config.session = s.config.session)
    (he : u.engine.pendingIsolate = s.engine.pendingIsolate) (tag : Tag) : tagInUse u tag = tagInUse s tag := by
  simp only [tagInUse, slotOfTag, hp, hc, he]

/-- The room for a class is counted in the slots alone (R3). -/
theorem hasRoom_congr {s u : State} (hp : u.pool = s.pool) (cls : Class) : hasRoom u cls = hasRoom s cls := by
  have hf : freeSlots u = freeSlots s := congrArg (fun p => p.slots.toList.countP Option.isNone) hp
  cases cls <;> simp [hasRoom, hf]

/-- A node's health state is read from the Node Monitor alone (R51). -/
theorem healthOf_congr {s u : State} (hm : u.monitor = s.monitor) (a : NodeAddr) : healthOf u a = healthOf s a := by
  simp only [healthOf, hm]

/-- Steps 6 to 8 of R91 read the port, the Node Monitor and the slots alone. -/
theorem lineRefusal_congr {s u : State} (he : u.engine.port = s.engine.port) (hm : u.monitor = s.monitor)
    (hp : u.pool = s.pool) (a : NodeAddr) (cls : Class) : lineRefusal u a cls = lineRefusal s a cls := by
  simp only [lineRefusal, portRefusal, nodeRefusal, he, healthOf_congr hm, hasRoom_congr hp]

/-! ### MANAGE frames that pass (R103) -/

/-- A MANAGE frame that passes every check of R103 is its owner's. -/
theorem intakeManage_of_passes {code : ManageCode} {f : ManageFrame} {s : State} (t : Arrival)
    (owner : ManageFrame → State → State) (h : ManagePasses code f s) :
    intakeManage code owner f (s.atFrame t) = decideA (owner f (s.atFrame t)) := by
  obtain ⟨h1, h2, h3, h4⟩ := h
  simp [intakeManage, manageChecks, h1, h2, h3, h4]

/-- A direct MANAGE frame that passes every check is decided by its owner in the state of its event (R103). -/
theorem takeManage_of_passes {code : ManageCode} {f : ManageFrame} {s : State} (t : Arrival)
    (owner : ManageFrame → State → State) (hs : Serving s) (h : ManagePasses code f s) :
    takeDirect t (.manage code.byte f) (intakeManage code owner f) s = decideA (owner f (s.atFrame t)) := by
  have hl : f.args.length ≤ 88 := by rw [h.2.2.2]; have := code.argLength_le; omega
  rw [takeDirect_of_serving _ hs (manage_length _ _ _ hl), intakeManage_of_passes t owner h]

/-- A broadcast EPOCH_SET or SEGMENT_RESET that passes its checks is carried out without a reply (R107). -/
theorem takeBroadcastManage_of_passes {code : ManageCode} {f : ManageFrame} {s : State} (t : Arrival)
    (effect : ManageFrame → State → State) (hs : Serving s) (hf : manageFormFault f = none)
    (ha : f.args.length = code.argLength) :
    takeBroadcast t (.manage code.byte f) (intakeBroadcastManage code effect f) s =
      decideA (effect f (s.atBroadcast t (.manage code.byte f))) := by
  have hl : f.args.length ≤ 88 := by rw [ha]; have := code.argLength_le; omega
  rw [takeBroadcast_of_serving _ hs (manage_length _ _ _ hl)]
  simp [intakeBroadcastManage, hf, ha]

end Sys2Proof.Machine
end

