-- ==== Sys2Proof/Laws/Line.lean ====
section
/-! SUPPORT. The drop line: when the controller's own characters end, which instant the last activity is, and that a
character's ten bits carry its byte (R24, R25, R29). -/

namespace Sys2Proof.Machine

theorem bitRate_pos (rate : Fin 4) : 0 < Config.bitRate rate := by
  fin_cases rate <;> decide

/-- At least `n` characters have ended once `n` character times have passed, and not before. -/
theorem le_charsEndedIn_iff (rate : Fin 4) (n us : Nat) : n ≤ charsEndedIn rate us ↔ ctMicros rate n ≤ us := by
  have hb := bitRate_pos rate
  unfold charsEndedIn ctMicros
  have hpos : 0 < (us + 1) * Config.bitRate rate := Nat.mul_pos (Nat.succ_pos us) hb
  rw [Nat.le_div_iff_mul_le (by norm_num), ← Nat.lt_succ_iff (m := _ / _), Nat.div_lt_iff_lt_mul hb]
  simp only [Nat.succ_eq_add_one]
  omega

/-- Outside SENDING the last activity instant is the field. -/
@[simp] theorem lastActivity_of_not_sending (s : State) (h : s.engine.port ≠ .sending) :
    s.lastActivity = s.engine.lastActivity := by
  unfold State.lastActivity
  split
  · exact absurd ‹s.engine.port = .sending› h
  · rfl

/-- In SENDING the last activity instant is the end of the last own character, once one has ended. -/
theorem lastActivity_of_sending (s : State) (start : Stamp) (hp : s.engine.port = .sending)
    (h : s.engine.txStart = some start) (hn : ownCharsEnded s ≠ 0) :
    s.lastActivity = start + BitVec.ofNat 48 (ctMicros s.rate (ownCharsEnded s)) := by
  simp [State.lastActivity, hp, h, hn]

/-- A frame has been sent whole when its characters' time has passed. -/
theorem frameEnded_iff (s : State) (start : Stamp) (h : s.engine.txStart = some start) :
    frameEnded s = true ↔ ctMicros s.rate s.engine.txFrame.length ≤ microsBetween start s.time.clock := by
  simp [frameEnded, ownCharsEnded, sendingFor, h, le_charsEndedIn_iff]

@[simp] theorem charBits_length (b : Byte) : (charBits b).length = 10 := by
  simp [charBits]

@[simp] theorem frameBits_length (frame : List Byte) : (frameBits frame).length = 10 * frame.length := by
  simp [frameBits, List.length_flatMap, Nat.mul_comm]

/-- A character received with the ten levels of a byte carries that byte, without a framing error. -/
theorem received_of_charBits (b : Byte) (ch : LineChar)
    (h : ∀ k, k < 10 → ch.levels.getLsbD k = (charBits b).getD k true) :
    ch.data = b ∧ ch.framingError = false ∧ ch.started = true := by
  refine ⟨?_, ?_, ?_⟩
  · refine BitVec.eq_of_getLsbD_eq fun k hk => ?_
    have := h (1 + k) (by omega)
    simpa [LineChar.data, charBits, Nat.add_comm 1 k, List.getElem?_append, hk] using this
  · have := h 9 (by omega)
    simpa [LineChar.framingError, charBits] using this
  · have := h 0 (by omega)
    simpa [LineChar.started, charBits] using this

end Sys2Proof.Machine
end

