-- ==== Sys2Proof/Tests/Slice0.lean ====
section
/-! SUPPORT. Tests: the smoke test of WellFormed, the spec's worked examples as single steps (chapter 11, R129, R131), and for
each statement a witness that its hypotheses can be met, clause by clause. -/

namespace Sys2Proof.Tests

set_option Elab.async false

open Sys2Proof Sys2Proof.Machine

/-! ### Small states -/

/-- The state a command leaves. -/
def after (i : Instr) (s : State) : State :=
  match exec i s with
  | .next u => u
  | .fault _ => State.reset
  | .refused _ => State.reset

/-- Both trunk ports UP, one second after the release. -/
def up : State :=
  { State.reset with
    time := { clock := 1000000#48, epoch := 5#48 }
    calendar := { State.reset.calendar with nextBoundary := 1000000#48 }
    trunk := { State.reset.trunk with aUp := true, bUp := true }
    notices := { State.reset.notices with ordinary := [] } }

def permitAll : AccessEntry :=
  { used := true, nodeFirst := 1, nodeLast := 31, spaces := 15#4, addressFirst := 0#16, addressLast := 0xFFFF#16
    verdict := .permit, allowRead := true, allowWrite := true, maxCount := 32, cls := .normal }

/-- An entry that reads and writes pass only in node 2, with one word. -/
def narrow : AccessEntry :=
  { permitAll with nodeFirst := 2, nodeLast := 2, maxCount := 1, cls := .urgent }

def pollOf (node : NodeAddr) (address : Word) (count period staleFactor : Nat) : PollEntry :=
  { used := true, node := node, space := 0, address := address, count := count, period := period, phase := 0
    staleFactor := staleFactor }

def nodeOn : NodeEntry :=
  { present := true, window := 20, retryLimit := 1, threshold := 3, probeUnits := 10 }

/-- Entry 0 of each table in use: every access permitted, a poll of node 1, node 1 present. -/
def tables : Tables :=
  { Tables.cleared with
    access := Tables.cleared.access.set 0 permitAll
    poll := Tables.cleared.poll.set 0 (pollOf 1 16#16 4 1 2)
    node := Tables.cleared.node.set 0 nodeOn }

def freshCell (stamp limit : Stamp) (words : List Word) : Cell :=
  { Cell.cleared with state := .fresh, values := some words, updateStamp := some stamp, limit := some limit }

/-- Node 1 ONLINE, its cell FRESH, 10 ms old. -/
def live : State :=
  { up with
    config := { up.config with active := tables, shadow := tables }
    monitor := { up.monitor with health := up.monitor.health.set 0 (Health.cleared .online) }
    calendar := { up.calendar with cells := up.calendar.cells.set 0 (freshCell 990000#48 1010000#48 [1, 2, 3, 4]) } }

def withNode (state : HealthState) (s : State) : State :=
  { s with monitor := { s.monitor with health := s.monitor.health.set 0 (Health.cleared state) } }

def withPort (port : PortState) (s : State) : State :=
  { s with engine := { s.engine with port := port } }

/-- A port with a transaction under way. -/
def withTxn (port : PortState) (x : Txn) (s : State) : State :=
  { s with engine := { s.engine with port := port, txn := some x } }

def withSession (session : Session) (s : State) : State :=
  { s with config := { s.config with session := session } }

/-- Slot 0 occupied by a record. -/
def withSlot (slot : Slot) (s : State) : State :=
  { s with pool := { s.pool with slots := s.pool.slots.set 0 (some slot) } }

def slotIn (state : SlotState) : Slot :=
  { tag := 9, node := 1, op := .write, space := 0, address := 17#16, count := 1, payload := [7], cls := .normal
    origin := .direct, attempts := 1, sentOnce := true, state := state, outcome := none }

def hostRead : Txn :=
  { claimant := .host 0, node := 1, op := .read, space := 0, address := 16#16, count := 1, payload := []
    ownAttempts := 0, window := some 20 }

def pollRead : Txn :=
  { hostRead with claimant := .poll 0 }

def broadcast31 : Txn :=
  { hostRead with node := 31, op := .write, payload := [7], window := none }

def someReply : Reply :=
  { tag := 1#8, node := 0#8, status := .ok, detail := 0#8, source := .controller, stamp := 0#48, body := [] }

/-- All 16 places of the immediate part taken. -/
def full (s : State) : State :=
  { s with
    trunk := { s.trunk with upstream := List.replicate 16 { item := .immediate someReply, frame := none } } }

/-- Every slot of the pool occupied. -/
def poolFull (s : State) : State :=
  { s with pool := { s.pool with slots := Vector.replicate 32 (some (slotIn .replying)) } }

def heldState : State :=
  { up with held := some .pin }

/-- REPEATER mode. -/
def relay : State :=
  { up with segment := 15 }

def record (kind : NoticeKind) (node : Option NodeAddr) (flight : Option Flight) : NoticeRecord :=
  { kind := kind, node := node, detail := 1#16, first := 0#48, last := 0#48, repeats := 1, flight := flight }

def inFlight5 : Flight :=
  { sequence := 5#8, frame := [0x82#8], sentBefore := true }

/-- A CONFIG_APPLIED record IN_FLIGHT with sequence 5. -/
def flying : State :=
  { up with
    notices :=
      { up.notices with ordinary := [record .configApplied none (some inFlight5)], resend := some 1000000#48 } }

def arr : Arrival := { elapsed := 0, airtime := 100 }

def readFrame : RequestFrame :=
  { flags := 0#4, tag := 5#8, node := 1#8, spaceCount := 3#8, address := 16#16, tail := [] }

/-- A READ with MaxAge 10 ms, the age of `live`'s cell. -/
def agedRead : RequestFrame :=
  { readFrame with flags := 1#4, tail := [0#8, 10#8] }

/-- The same with MaxAge 9 ms and MIRROR_ONLY. -/
def mirrorRead : RequestFrame :=
  { readFrame with flags := 3#4, tail := [0#8, 9#8] }

def writeFrame : RequestFrame :=
  { readFrame with spaceCount := 0#8, tail := [0#8, 50#8] }

def write31 : RequestFrame :=
  { writeFrame with node := 31#8 }

def abortOf (target : Byte) : AbortFrame :=
  { flags := 0#4, tag := 15#8, node := 0#8, target := target, tail := [] }

def manage (args : List Byte) : ManageFrame :=
  { flags := 0#4, tag := 7#8, node := 0#8, argLength := BitVec.ofNat 8 args.length, args := args }

/-- A character as the line shows it: stop level, eight data bits, start level (R24). -/
def good (byte : Byte) : LineChar :=
  { levels := 1#1 ++ byte ++ 0#1 }

/-- The line held low for a whole character. -/
def held10 : LineChar :=
  { levels := 0#10 }

/-- A frame under transmission since an instant. -/
def onLine (start : Stamp) (frame : List Byte) (s : State) : State :=
  { s with
    engine := { s.engine with port := .sending, dropDE := true, txFrame := frame, txStart := some start } }

/-! ### WellFormed refuses what the environment cannot give -/

theorem test_wf_interval : (Instr.trunkAUp (2 ^ 48)).wf = false ∧ (Instr.trunkAUp (2 ^ 48 - 1)).wf = true := by decide

theorem test_wf_airtime : (Instr.aFrameReceived ⟨0, 2 ^ 48⟩ ⟨true, []⟩).wf = false := by decide

theorem test_wf_read_too_long :
    (Instr.read arr { readFrame with tail := List.replicate 88 0#8 }).wf = false ∧
      (Instr.read arr { readFrame with tail := List.replicate 87 0#8 }).wf = true := by decide +kernel

theorem test_wf_abort_too_long : (Instr.abort arr { abortOf 1#8 with tail := List.replicate 90 0#8 }).wf = false := by
  decide +kernel

theorem test_wf_manage_too_long : (Instr.commit arr (manage (List.replicate 89 0#8))).wf = false := by decide +kernel

theorem test_wf_broadcast_node : (Instr.broadcastWrite arr writeFrame).wf = false ∧
    (Instr.broadcastWrite arr write31).wf = true := by decide +kernel

theorem test_wf_unknown_code : (Instr.unknownCode arr 0x10#8 (manage [])).wf = false ∧
    (Instr.unknownCode arr 0x15#8 (manage [])).wf = true := by decide +kernel

theorem test_wf_start_bit :
    (Instr.strayCharacter 0 { levels := 0x3FF#10 }).wf = false ∧ (Instr.responseCharacter 0 (good 0xFF#8)).wf = true := by
  decide

/-! ### Characters on the line (R24, R25, R28) -/

/-- R24: the least significant data bit follows the start bit; R25: a stop bit that is low is a framing error. -/
theorem test_line_character :
    (good 0xC5#8).levels = 0b1110001010#10 ∧ (good 0xC5#8).data = 0xC5#8 ∧ (good 0xC5#8).framingError = false ∧
      held10.data = 0#8 ∧ held10.framingError = true := by decide

/-- R24, R29 at 19200 Bd, 52 µs a bit: start bit at 10 µs, first data bit at 100 µs, stop bit at 500 µs. -/
theorem test_drop_txd :
    dropTxd (onLine 999990#48 [0xC4#8] up) = some false ∧ dropTxd (onLine 999900#48 [0xC5#8] up) = some true ∧
      dropTxd (onLine 999500#48 [0x45#8] up) = some true ∧ dropTxd up = none := by decide +kernel

/-- R25: 1100 µs into a frame two characters of 520.8 µs have ended, and the line's last activity is the second's end. -/
theorem test_last_activity_in_sending :
    ownCharsEnded (onLine 998900#48 (requestFrame hostRead) up) = 2 ∧
      (onLine 998900#48 (requestFrame hostRead) up).lastActivity = 999941#48 := by decide +kernel

/-! ### Bytes: the spec's own examples (R24, R129, R131) -/

/-- R129: over the nine bytes 31h to 39h, the result is 29B1h. -/
theorem test_crc_of_nine_digits :
    crc16 [0x31#8, 0x32#8, 0x33#8, 0x34#8, 0x35#8, 0x36#8, 0x37#8, 0x38#8, 0x39#8] = 0x29B1#16 := by decide +kernel

/-- R131: a READ sent to segment 3 with tag 17 for node 12, space 0, address 200, count 4 and MaxAge 50 ms. -/
theorem test_read_bytes_of_r131 :
    (downstreamBytes 3
        (.request .read
          { flags := 1#4, tag := 17#8, node := 12#8, spaceCount := 3#8, address := 200#16
            tail := [0x00#8, 0x32#8] })).take 9 =
      [0x01#8, 0x31#8, 0x11#8, 0x0C#8, 0x03#8, 0x00#8, 0xC8#8, 0x00#8, 0x32#8] := by decide +kernel

/-- R131: the same request with MIRROR_ONLY also set carries 33h at offset 1. -/
theorem test_mirror_only_byte_of_r131 :
    byteAt (downstreamBytes 3 (.request .read { mirrorRead with tag := 17#8 })) 1 = 0x33#8 := by decide +kernel

/-- The table gives no row any bits, so no word spells a command. -/
theorem test_no_word_is_a_command : decodeTableWord 16 0x1234 = none := by decide

/-! ### Worked sequence 11.4: a WRITE aborted in the guard of its retry -/

/-- Node 8 ONLINE with retry limit 2, cell 2 FRESH with key (8, 0, 40, 4), and the WRITE of tag 14 in slot 0. -/
def seq4 (port : PortState) (state : SlotState) (attempts : Nat) : State :=
  let slot : Slot :=
    { slotIn state with tag := 14, node := 8, address := 42#16, attempts := attempts, sentOnce := true }
  withTxn port { hostRead with node := 8, op := .write, address := 42#16, payload := [7] }
    (withSlot slot
      { live with
        config :=
          { live.config with
            active :=
              { tables with
                poll := tables.poll.set 2 (pollOf 8 40#16 4 1 2)
                node := tables.node.set 7 { nodeOn with retryLimit := 2 } } }
        monitor := { live.monitor with health := live.monitor.health.set 7 (Health.cleared .online) }
        calendar :=
          { live.calendar with cells := live.calendar.cells.set 2 (freshCell 990000#48 2000000#48 [1, 2, 3, 4]) } })

/-- "The ABORT is answered OK, immediate part", and the slot is ABORT_PENDING. -/
theorem test_abort_in_guard :
    let u := after (.abort arr (abortOf 14#8)) (seq4 .guard .active 1)
    (u.pool.slots[0]).map Slot.state = some .abortPending ∧ u.engine.port = .guard ∧
      u.trunk.upstream.map UpEntry.isImmediate = [true] := by decide +kernel

/-- "Silence reaches the guard gap; the attempt is made": attempts 2 in SENDING. -/
theorem test_attempt_of_aborted_slot :
    let u := after (.guardSilenceReached 0) (seq4 .guard .abortPending 1)
    u.engine.port = .sending ∧ (u.pool.slots[0]).map Slot.attempts = some 2 ∧ u.engine.dropDE = true ∧
      u.engine.txFrame.length = 10 := by decide +kernel

/-- The outcome of 11.4's last exchange: ABORTED_LATE with detail OK, cell 2 STALE, node 8 ONLINE, the port IDLE. -/
theorem test_aborted_late :
    let s := seq4 .receiving .abortPending 2
    let u :=
      after (.responseCharacter 0 (good (BitVec.ofNat 8 (crc16 [0xC6#8, 8#8, 0x82#8, 0#8, 0#8]).toNat)))
        { s with
          engine :=
            { s.engine with
              rxBuffer :=
                [0xC6#8, 8#8, 0x82#8, 0#8, 0#8] ++ (be16 (crc16 [0xC6#8, 8#8, 0x82#8, 0#8, 0#8])).take 1 } }
    (u.pool.slots[0]).bind Slot.outcome =
        some { status := .abortedLate, detail := 1#8, attempts := 2, stamp := 1000000#48, data := [] } ∧
      (u.calendar.cells[2]).state = .stale ∧ (u.monitor.health[7]).state = .online ∧ u.engine.port = .idle := by
  decide +kernel

/-! ### Worked sequence 11.5: a node taken OFFLINE -/

/-- Node 21 SUSPECT with one failure, threshold 2, no retry; slots 2, 3 and 5 for node 21 and slot 4 for node 6. -/
def seq5 : State :=
  let mk (state : SlotState) (node : NodeAddr) : Option Slot :=
    some { slotIn state with node := node, op := .read, payload := [], sentOnce := false }
  withTxn .awaiting { hostRead with claimant := .host 2, node := 21 }
    { live with
      engine := { live.engine with deadline := some 1000000#48 }
      pool :=
        { live.pool with
          slots :=
            (((live.pool.slots.set 2 (mk .active 21)).set 3 (mk .queued 21)).set 4 (mk .queued 6)).set 5
              (mk .queued 21)
          normal := [3, 4, 5] }
      config :=
        { live.config with
          active :=
            { tables with
              poll := tables.poll.set 10 (pollOf 21 0#16 2 1 2)
              node := tables.node.set 20 { nodeOn with window := 5, retryLimit := 0, threshold := 2, probeUnits := 50 } } }
      monitor :=
        { live.monitor with
          health := live.monitor.health.set 20 { Health.cleared .suspect with failures := 1 } }
      calendar :=
        { live.calendar with cells := live.calendar.cells.set 10 (freshCell 990000#48 2000000#48 [1, 2]) } }

/-- "Tags 3 and 5 flushed NODE_OFFLINE", cell 10 FAILED, NODE_OFFLINE with detail 2, slot part 2, 3, 5, tag 4 granted. -/
theorem test_node_goes_offline :
    let u := after (.responseDeadline 0) seq5
    (u.monitor.health[20]).state = .offline ∧ (u.monitor.health[20]).probeDue = some 6000000#48 ∧
      u.trunk.upstream.map UpEntry.item = [.slot 2, .slot 3, .slot 5] ∧ (u.calendar.cells[10]).state = .failed ∧
      (u.notices.ordinary.map fun r => (r.kind, r.detail)) = [(.nodeOffline, 2#16)] ∧ u.status.indNode = true ∧
      (u.engine.txn.map Txn.claimant) = some (.host 4) := by decide +kernel

/-- "NODE_REVIVE node 21; engine IDLE: claim placed and granted at rank 3", reply OK. -/
theorem test_revive_grants_probe :
    let s :=
      { live with
        monitor :=
          { live.monitor with
            health :=
              live.monitor.health.set 20 { Health.cleared .offline with probeDue := some 6000000#48 } } }
    let u := after (.nodeRevive arr (manage [21#8])) s
    (u.monitor.health[20]).claim = .active ∧ (u.monitor.health[20]).probeDue = none ∧
      (u.engine.txn.map Txn.claimant) = some (.probe 20) := by decide +kernel

/-- "Probe ends TIMEOUT": three failures, the timer armed for 5 s from now, no flush and no notice. -/
theorem test_probe_fails_again :
    let s :=
      withTxn .awaiting { hostRead with claimant := .probe 20, node := 21, ownAttempts := 1 }
        { seq5 with
          monitor :=
            { seq5.monitor with
              health :=
                seq5.monitor.health.set 20 { Health.cleared .offline with failures := 2, claim := .active } }
          pool := live.pool }
    let u := after (.responseDeadline 6000) s
    (u.monitor.health[20]).failures = 3 ∧ (u.monitor.health[20]).probeDue = some 6006000#48 ∧
      (u.monitor.health[20]).claim = .none ∧ u.notices.ordinary = [] ∧ u.trunk.upstream = [] := by decide +kernel

/-! ### Worked sequences 11.6 and 11.7: a commit at a boundary, and reads against the mirror -/

/-- The state before the boundary of 500 ms, with the commit of tag 7 pending. -/
def seq6 : State :=
  let poll (i : List (Fin 64 × PollEntry)) : Vector PollEntry 64 :=
    i.foldl (fun v x => v.set x.1.val x.2 x.1.isLt) Tables.cleared.poll
  let cells (i : List (Fin 64 × Cell)) : Vector Cell 64 :=
    i.foldl (fun v x => v.set x.1.val x.2 x.1.isLt) (Vector.replicate 64 Cell.cleared)
  let node := [3, 5, 8, 11].foldl (fun (v : Vector NodeEntry 30) (i : Fin 30) => v.set i.val nodeOn i.isLt) tables.node
  let old : Tables :=
    { tables with
      node := node
      poll :=
        poll
          [(0, pollOf 4 10#16 2 1 3), (1, pollOf 6 100#16 8 2 2), (2, { pollOf 9 0#16 1 2 2 with space := 1 }),
            (3, pollOf 12 0#16 4 1 1)] }
  let new : Tables :=
    { old with
      poll :=
        poll
          [(0, pollOf 6 100#16 8 2 2), (1, pollOf 4 10#16 2 4 3), (3, pollOf 12 0#16 2 1 1),
            (5, { pollOf 9 0#16 1 2 2 with space := 1 })] }
  { live with
    time := { clock := 500000#48, epoch := 0#48 }
    config :=
      { active := old, shadow := new, session := .commitPending 1#8 7, lastId := 1#8, generation := 1#32 }
    monitor :=
      { live.monitor with
        health :=
          [3, 5, 8, 11].foldl
            (fun (v : Vector Health 30) (i : Fin 30) => v.set i.val (Health.cleared .online) i.isLt)
            live.monitor.health }
    calendar :=
      { live.calendar with
        nextBoundary := 500000#48, dueList := [1]
        cells :=
          cells
            [(0, freshCell 490000#48 520000#48 [1, 2]), (1, { Cell.cleared with state := .stale, missCount := 4 }),
              (2, { Cell.cleared with state := .failed, lastFailure := some (.timeout, 0#8) }),
              (3, freshCell 490000#48 520000#48 [1, 2, 3, 4])] } }

/-- 11.6: the rebuild, the limit 610, generation 2, CYCLE_OVERRUN and CONFIG_APPLIED, and the session CLOSED. -/
theorem test_commit_at_boundary :
    let u := boundary seq6
    u.config.generation = 2#32 ∧ u.config.session = .closed ∧ u.config.active = seq6.config.shadow ∧
      ((u.calendar.cells[0]).state, (u.calendar.cells[0]).missCount) = (.stale, 5) ∧
      (u.calendar.cells[1]).limit = some 610000#48 ∧ (u.calendar.cells[2]).state = .empty ∧
      (u.calendar.cells[3]).state = .empty ∧ (u.calendar.cells[5]).state = .failed ∧
      (u.notices.ordinary.map fun r => (r.kind, r.detail)) = [(.cycleOverrun, 1#16), (.configApplied, 2#16)] ∧
      u.counter .pollsMissed = 1#32 := by decide +kernel

/-- 11.6: the poll that ends OK at 503 ms makes cell 5 FRESH with limit 543. -/
theorem test_poll_reaches_moved_cell :
    let u :=
      pollOutcome { node := 9, space := 1, address := 0#16, count := 1 } (.ok [4])
        { boundary seq6 with time := { clock := 503000#48, epoch := 0#48 } }
    (u.calendar.cells[5]).state = .fresh ∧ (u.calendar.cells[5]).limit = some 543000#48 ∧
      u.counter .pollsDone = 1#32 := by decide +kernel

/-- The state of 11.7 at an instant. -/
def seq7 (now : Stamp) : State :=
  let s := boundary seq6
  { s with time := { clock := now, epoch := 0#48 }, trunk := { s.trunk with upstream := [] } }

/-- 11.7: at 530 ms a READ with MaxAge 50 is served by cell 1 and one with 30 is not; at 610 ms age 120 still serves. -/
theorem test_mirror_reads :
    servingCell (seq7 530000#48) { node := 4, space := 0, address := 10#16, count := 2 } 50 = some 1 ∧
      servingCell (seq7 530000#48) { node := 4, space := 0, address := 10#16, count := 2 } 30 = none ∧
      servingCell (seq7 531000#48) { node := 4, space := 0, address := 11#16, count := 2 } 100 = none ∧
      servingCell (seq7 531000#48) { node := 6, space := 0, address := 100#16, count := 2 } 100 = none ∧
      servingCell (seq7 610000#48) { node := 4, space := 0, address := 10#16, count := 2 } 200 = some 1 := by
  decide +kernel

/-- 11.7: "age 40 ≤ 50. Reply OK, source MIRROR, age 40"; with MIRROR_ONLY and MaxAge 30, NOT_MIRRORED. -/
theorem test_mirror_replies :
    let f : RequestFrame := { readFrame with node := 4#8, spaceCount := 1#8, address := 10#16 }
    let first (s : State) (f : RequestFrame) : Option (Status × Source) :=
      ((after (.read arr f) s).trunk.upstream.head?).bind fun e =>
        match e.item with
        | .immediate r => some (r.status, r.source)
        | .slot _ => none
    first (seq7 530000#48) { f with flags := 1#4, tail := [0#8, 50#8] } = some (.ok, .mirror 40#16) ∧
      first (seq7 530000#48) { f with flags := 3#4, tail := [0#8, 30#8] } = some (.notMirrored, .controller) := by
  decide +kernel

/-- 11.7: at 611 ms "the cell went STALE once its age passed 120". -/
theorem test_freshness_expires :
    ((after (.freshnessExpiry 0 1) (seq7 610000#48)).calendar.cells[1]).state = .fresh ∧
      ((after (.freshnessExpiry 0 1) (seq7 611000#48)).calendar.cells[1]).state = .stale := by decide +kernel

/-! ### Worked sequence 11.8: notice overflow -/

/-- CONFIG_APPLIED IN_FLIGHT with sequence 5, NODE_OFFLINE 3, CYCLE_OVERRUN, and ACCESS_REFUSED for nodes 1 to 21. -/
def seq8 : NoticeQueue :=
  { up.notices with
    nextSequence := 6#8
    ordinary :=
      [record .configApplied none (some inFlight5), record .nodeOffline (some 3) none, record .cycleOverrun none none] ++
        (List.range 21).map fun n => record .accessRefused (some (Fin.ofNat 32 (n + 1))) none }

/-- The five raises of 11.8, in order. -/
def seq8Raised : NoticeQueue :=
  NoticeQueue.takeRaise .accessRefused (some 1) 0#16 9#48
    (NoticeQueue.takeRaise .nodeRecovered (some 3) 0#16 9#48
      (NoticeQueue.takeRaise .relayLoss none 1#16 9#48
        (NoticeQueue.takeRaise .accessRefused (some 25) 0#16 9#48
          (NoticeQueue.takeRaise .cycleOverrun none 3#16 9#48 seq8))))

theorem test_overflow_raises :
    seq8Raised.ordinary.length = 24 ∧ (seq8Raised.loss.map fun r => (r.repeats, r.detail)) = some (3, 8#16) ∧
      (seq8Raised.ordinary.getLast?.map fun r => (r.kind, r.node)) = some (.nodeRecovered, some 3) ∧
      seq8Raised.ordinary.any (fun r => r.kind == .accessRefused && r.node == some 21) = false ∧
      (seq8Raised.ordinary[2]?.map fun r => (r.repeats, r.detail)) = some (2, 3#16) := by decide +kernel

/-- NOTICE_ACK 5: 23 records, and the grant that follows sends the loss record with sequence 6. -/
theorem test_acknowledged_overflow :
    let u := after (.noticeAck arr (manage [5#8])) { up with notices := seq8Raised }
    u.notices.ordinary.length = 23 ∧ u.trunk.marker = .upstream ∧
      ((after (.aTransmitEnd 0) u).notices.loss.bind NoticeRecord.flight).map Flight.sequence = some 6#8 := by
  decide +kernel

/-! ### Further single steps -/

/-- R32: with a valid response of one word, a READ is answered OK with that word. -/
theorem test_read_response :
    checkResponse hostRead (withCheck [0xC6#8, 1#8, 0x81#8, 0#8, 1#8, 0x12#8, 0x34#8]) = .ok [0x1234#16] := by
  decide +kernel

/-- R8: with a bulk share of 4, four NORMAL grants and then one BULK grant. -/
theorem test_bulk_credit :
    chooseOrdinary [1] [2] 3 4 = some (.normal 1 [] 4) ∧ chooseOrdinary [1] [2] 4 4 = some (.bulk 2 []) := by decide

/-- R155, R177: the straps are latched at the release, and SEG3..SEG0 of 15 isolates the port. -/
theorem test_hard_reset :
    (after (.hardReset ⟨15, 2⟩) up).engine.port = .isolated ∧ (after (.hardReset ⟨15, 2⟩) up).notices.ordinary = [] ∧
      (after (.hardReset ⟨3, 1⟩) up).segment = 3 ∧ (after (.hardReset ⟨3, 1⟩) up).trunk.aUp = false := by
  decide +kernel

/-- R115: the id after 255 is 1. -/
theorem test_session_id_wraps :
    (after (.editOpen arr (manage [])) { up with config := { up.config with lastId := 255#8 } }).config.session =
      .opened 1#8 61000000#48 := by decide +kernel

/-- R172: the epoch offset is the value less the arrival instant. -/
theorem test_epoch_set :
    (after (.epochSet arr .direct (manage [0, 0, 0, 0, 0, 0])) up).time.epoch = 0#48 - 999900#48 := by decide +kernel

/-! ### Witnesses: for each statement, a state and operands that meet the hypotheses of each clause -/

theorem witness_StepRunsFrontCommand :
    ({ up with pending := [.trunkBDown 0, .trunkAUp 1] } : State).pending = .trunkBDown 0 :: [.trunkAUp 1] := by decide

theorem witness_EveryCommandCompletesAndKeepsQueue :
    (up.pending = [] ∧ up.held = none) ∧ (heldState.pending = [] ∧ heldState.held.isSome = true) ∧
      ((Instr.trunkAUp 5).elapsed.isSome = true ∧ heldState.held.isSome = true) := by decide +kernel

theorem witness_TimeBaseIsWrittenOnlyByItsOwners :
    ((Instr.trunkAUp 5).elapsed = some 5 ∧ up.held = none) ∧
      ((Instr.segmentReset arr .direct (manage [])).elapsed = some 0 ∧
        (Instr.segmentReset arr .direct (manage [])).carriesEpochSet = false) ∧
      ((Instr.aFrameReceived arr { symbolsValid := true, bytes := downstreamBytes 0 (.request .read readFrame) }).elapsed =
          some 0 ∧
        (Instr.aFrameReceived arr
            { symbolsValid := true, bytes := downstreamBytes 0 (.request .read readFrame) }).carriesEpochSet = false) ∧
      (Instr.aFrameReceived arr
          { symbolsValid := true, bytes := downstreamBytes 0 (.manage 0x61#8 (manage [0, 0, 0, 0, 0, 1])) }).carriesEpochSet =
        true := by decide +kernel

theorem witness_StrapsAndActiveTablesAreHeld :
    (∀ straps, Instr.trunkAUp 5 ≠ .hardReset straps) ∧
      ((Instr.entryWrite arr (manage [])).elapsed = some 0 ∧
        (Instr.entryWrite arr (manage [])).isBoundary = false) := by
  exact ⟨fun _ => by simp, by decide⟩

theorem witness_LinkChangesTakeEffect :
    (State.reset.held = none ∧ State.reset.trunk.aUp = false ∧ State.reset.trunk.bUp = false) ∧
      (up.held = none ∧ up.trunk.aUp = true ∧ up.trunk.bUp = true) := by decide +kernel

/-- A frame of the DOWN relay that is an EPOCH_SET, and one that is not. -/
def relayedEpoch : DownFrame :=
  { bytes := downstreamBytes 15 (.manage 0x61#8 (manage [0, 0, 0, 0, 0, 1])), arrival := 0#48 }

def sendingB (queue : List DownFrame) : State :=
  { up with trunk := { up.trunk with bTx := some [1#8], downQueue := queue } }

theorem witness_BTransmitEndCountsAndTakesNextFrame :
    ((sendingB []).held = none ∧ (sendingB []).trunk.bUp = true ∧ (sendingB []).trunk.bTx.isSome = true ∧
        (sendingB []).trunk.downQueue = []) ∧
      ((sendingB [relayedEpoch]).trunk.bTx.isSome = true ∧ (sendingB [relayedEpoch]).trunk.downQueue = [relayedEpoch]) ∧
      (up.held = none ∧ up.trunk.bTx = none) ∧ isRelayedEpochSet relayedEpoch.bytes = true ∧
      isRelayedEpochSet (relayedEpoch.bytes.take 13) = false := by decide +kernel

def sendingA (claimant : UpClaimant) (live : Bool) (upstream : List UpEntry) (s : State) : State :=
  { s with
    trunk := { s.trunk with aTx := some { claimant := claimant, bytes := [1#8], live := live }, upstream := upstream } }

theorem witness_ATransmitEndCompletesGrant :
    (up.held = none ∧ up.trunk.aTx = none) ∧
      (sendingA .upRelay true [] up).trunk.aTx = some { claimant := .upRelay, bytes := [1#8], live := true } ∧
      ((sendingA .upstream true [⟨.slot 0, none⟩] up).trunk.aTx =
          some { claimant := .upstream, bytes := [1#8], live := true } ∧
        (sendingA .upstream true [⟨.slot 0, none⟩] up).trunk.upstream = [⟨.slot 0, none⟩]) ∧
      (sendingA .upstream true [⟨.immediate someReply, none⟩] up).trunk.upstream = [⟨.immediate someReply, none⟩] ∧
      ((sendingA .notice true [] flying).trunk.aTx = some { claimant := .notice, bytes := [1#8], live := true } ∧
        (sendingA .notice true [] flying).notices.inFlight.bind NoticeRecord.flight = some inFlight5) ∧
      (sendingA .notice true [] up).notices.inFlight = none ∧
      ((sendingA .notice false [] up).trunk.aTx = some { claimant := .notice, bytes := [1#8], live := false } ∧
        UpClaimant.notice ≠ .upRelay) := by decide +kernel

/-- Each claimant waiting with nothing under transmission. -/
def waiting (marker : UpClaimant) : State :=
  { live with
    trunk :=
      { live.trunk with upQueue := [[0x81#8]], upstream := [⟨.immediate someReply, none⟩], marker := marker }
    notices := { live.notices with ordinary := [record .cycleOverrun none none] } }

def broadcastHead : State :=
  let s := withSlot { slotIn .replying with origin := .broadcast, node := 31 } up
  { s with trunk := { s.trunk with upstream := [⟨.slot 0, none⟩] } }

/-- The Notice Queue next in the order, with its records. -/
def offering (q : NoticeQueue) : State :=
  { up with trunk := { up.trunk with marker := .upstream }, notices := q }

def twoKinds : NoticeQueue :=
  { up.notices with
    ordinary := [record .accessRefused (some 1) none, record .nodeOffline (some 3) none, record .cycleOverrun none none] }

/-- A record IN_FLIGHT whose resend is due; the loss record before an ordinary one; NODE_OFFLINE before lower ranks; and
RESET_DONE before the loss record. -/
theorem witness_ANoticeIsChosen :
    (∀ q ∈ [{ flying.notices with resendDue := true }, { twoKinds with loss := some (record .noticesLost none none) },
          twoKinds, { State.reset.notices with loss := some (record .noticesLost none none) }],
        (offering q).trunk.aUp = true ∧ (offering q).trunk.aTx = none ∧ headIsBroadcast (offering q) = false ∧
          (offering q).trunk.marker.order.find? (fun d => d.waits (offering q)) = some .notice) ∧
      flying.notices.inFlight = some (record .configApplied none (some inFlight5)) ∧
      ({ twoKinds with loss := some (record .noticesLost none none) } : NoticeQueue).inFlight = none ∧
      (∀ y ∈ twoKinds.ordinary, y.kind ≠ .resetDone) ∧
      (twoKinds.inFlight = none ∧ twoKinds.loss = none ∧
        twoKinds.ordinary =
          [record .accessRefused (some 1) none] ++
            record .nodeOffline (some 3) none :: [record .cycleOverrun none none] ∧
        NoticeKind.nodeOffline.code < NoticeKind.accessRefused.code ∧
        NoticeKind.nodeOffline.code ≤ NoticeKind.cycleOverrun.code) ∧
      (State.reset.notices.ordinary.map NoticeRecord.kind = [.resetDone] ∧ State.reset.notices.inFlight = none) := by
  decide +kernel

theorem witness_ATransmitDecisionIsCyclic :
    (∀ c : UpClaimant, (waiting c).trunk.aUp = true ∧ (waiting c).trunk.aTx = none ∧ headIsBroadcast (waiting c) = false ∧
        (waiting c).trunk.marker.order.find? (fun d => d.waits (waiting c)) =
          some (match c with
            | .upRelay => .upstream
            | .upstream => .notice
            | .notice => .upRelay)) ∧
      (up.trunk.aUp = true ∧ up.trunk.aTx = none ∧ headIsBroadcast up = false ∧
        up.trunk.marker.order.all (fun d => !d.waits up) = true) ∧
      (broadcastHead.trunk.aUp = true ∧ broadcastHead.trunk.aTx = none ∧
        broadcastHead.trunk.upstream = [⟨.slot 0, none⟩] ∧ isBroadcastSlot broadcastHead 0 = true) ∧
      State.reset.trunk.aUp = false ∧ (sendingA .notice true [] up).trunk.aTx.isSome = true := by
  refine ⟨fun c => by cases c <;> decide +kernel, by decide +kernel⟩

/-- A READ for segment 3, a correct downstream frame. -/
def forSegment3 : RawFrame :=
  { symbolsValid := true, bytes := downstreamBytes 3 (.request .read readFrame) }

/-- A reply from a controller below, a correct upstream frame. -/
def fromBelow : RawFrame :=
  { symbolsValid := true, bytes := immediateFrame { up with segment := 4 } someReply }

def corruptFrame : RawFrame :=
  { forSegment3 with symbolsValid := false }

def relaysHold (n : Nat) : State :=
  { up with
    trunk :=
      { up.trunk with
        downQueue := List.replicate n { bytes := [1#8], arrival := 0#48 }, upQueue := List.replicate n [0x81#8] } }

/-- Frames of kinds READ, ABORT and MANAGE (EDIT_OPEN) for segment 15, and a READ of six bytes for a segment. -/
def broadcastRead : RawFrame :=
  { symbolsValid := true, bytes := downstreamBytes 15 (.request .read readFrame) }

def broadcastAbort : RawFrame :=
  { symbolsValid := true, bytes := downstreamBytes 15 (.abort (abortOf 9#8)) }

def broadcastManage : RawFrame :=
  { symbolsValid := true, bytes := downstreamBytes 15 (.manage 0x10#8 (manage [])) }

def shortRead (segment : Byte) : RawFrame :=
  { symbolsValid := true, bytes := withCheck [0x01#8, segment, 5#8, 1#8] }

theorem witness_FramesThatIntakeDiscards :
    (Serving up ∧ isCorrupt (shortRead 0#8) = false ∧ segmentOf (shortRead 0#8).bytes = up.segment ∧
        isShort (shortRead 0#8).bytes = true) ∧
      (isCorrupt (shortRead 0xF0#8) = false ∧ segmentOf (shortRead 0xF0#8).bytes = 15 ∧
        isShort (shortRead 0xF0#8).bytes = true) ∧
      (isCorrupt broadcastRead = false ∧ segmentOf broadcastRead.bytes = 15 ∧ byteAt broadcastRead.bytes 0 = 0x01#8) ∧
      (isCorrupt broadcastAbort = false ∧ segmentOf broadcastAbort.bytes = 15 ∧ byteAt broadcastAbort.bytes 0 = 0x03#8) ∧
      (isCorrupt broadcastManage = false ∧ segmentOf broadcastManage.bytes = 15 ∧
        byteAt broadcastManage.bytes 0 = 0x04#8 ∧ byteAt broadcastManage.bytes 4 ≠ 0x61#8 ∧
        byteAt broadcastManage.bytes 4 ≠ 0x72#8) := by
  unfold Serving; decide +kernel

theorem witness_FramesOnTrunkPortsAreSorted :
    (State.reset.held = none ∧ State.reset.trunk.aUp = false ∧ State.reset.trunk.bUp = false) ∧
      (up.held = none ∧ up.trunk.aUp = true ∧ up.trunk.bUp = true ∧ isCorrupt corruptFrame = true) ∧
      (isCorrupt fromBelow = false ∧ isUpstreamKind fromBelow = true) ∧
      (Serving up ∧ isCorrupt forSegment3 = false ∧ isUpstreamKind forSegment3 = false ∧
        segmentOf forSegment3.bytes ≠ up.segment ∧ segmentOf forSegment3.bytes ≠ 15) ∧
      (relay.held = none ∧ relay.trunk.aUp = true ∧ relay.repeater = true) ∧
      (up.trunk.bUp = true ∧ (relaysHold 7).trunk.downQueue.length < 8 ∧ (relaysHold 7).trunk.upQueue.length < 8) ∧
      ((relaysHold 8).trunk.bUp = true ∧ 8 ≤ (relaysHold 8).trunk.downQueue.length ∧
        8 ≤ (relaysHold 8).trunk.upQueue.length) := by
  unfold Serving; decide +kernel

theorem witness_ManageBytesAreTheirCommands :
    ManageCode.ofByte? 0x15#8 = none ∧ ManageCode.ofByte? 0x0F#8 = none ∧ ManageCode.ofByte? 0x73#8 = none := by
  decide

/-- Slot 0 REPLYING with an outcome. -/
def replied : Slot :=
  { slotIn .replying with
    outcome := some { status := .ok, detail := 0#8, attempts := 1, stamp := 9#48, data := [] } }

theorem witness_ReplyJoinsUpstreamTailAndIsCounted :
    someReply.source = .controller ∧ ({ someReply with source := .mirror 4#16 } : Reply).source = .mirror 4#16 ∧
      (withSlot replied up).pool.slots[0] = some replied ∧ replied.outcome.isSome = true := by decide +kernel

theorem witness_FullImmediatePartDiscards :
    (Serving (full live) ∧ placesFull (full live) = true ∧ Sys2Proof.Downstream.fits (.abort (abortOf 9#8)) = true ∧
        Sys2Proof.Downstream.fits (.manage 0x14#8 (manage [1])) = true ∧
        Sys2Proof.Downstream.fits (.manage 0x15#8 (manage [])) = true) ∧
      (requestFits .read { readFrame with node := 0#8 } ∧
        requestFormFault .read { readFrame with node := 0#8 } = some .node) ∧
      (requestFormFault .read readFrame = none ∧ tagInUse (withSlot { slotIn .queued with tag := 5 } (full live)) 5 = true) ∧
      (∃ x, accessCheck (full up).config.active .read (requestRange readFrame) = .error x) ∧
      (RequestFormed .read agedRead (full live) ∧
        accessCheck (full live).config.active .read (requestRange agedRead) = .ok .normal ∧
        (mirrorOffer .read agedRead ((full live).atFrame arr)).isSome = true) ∧
      (RequestFormed .read mirrorRead (full live) ∧ mirrorOnly mirrorRead = true) ∧
      (RequestFormed .write writeFrame (full (withNode .offline live)) ∧
        mirrorOffer .write writeFrame ((full (withNode .offline live)).atFrame arr) = none ∧
        (lineRefusal (full (withNode .offline live)) (nodeOf writeFrame.node) .normal).isSome = true) := by
  unfold Serving RequestFormed requestFits
  refine ⟨by decide +kernel, by decide +kernel, by decide +kernel, ⟨(.noMatch, 255), by decide +kernel⟩,
    by decide +kernel, by decide +kernel, by decide +kernel⟩

theorem witness_RequestsAreRefusedInOrder :
    (Serving live ∧ placesFull live = false ∧ requestFits .write { writeFrame with tag := 64#8 } ∧
        requestFormFault .write { writeFrame with tag := 64#8 } = some .tag) ∧
      (requestFormFault .read readFrame = none ∧
        (Serving (withSlot { slotIn .queued with tag := 5 } live) ∧
          placesFull (withSlot { slotIn .queued with tag := 5 } live) = false ∧
          tagInUse (withSlot { slotIn .queued with tag := 5 } live) (tagOf readFrame.tag) = true)) ∧
      (RequestFormed .read readFrame up ∧
        accessCheck up.config.active .read (requestRange readFrame) = .error (.noMatch, 255)) ∧
      (RequestFormed .read mirrorRead live ∧
        accessCheck live.config.active .read (requestRange mirrorRead) = .ok .normal ∧ mirrorOnly mirrorRead = true ∧
        mirrorOffer .read mirrorRead (live.atFrame arr) = none) ∧
      (RequestFormed .read readFrame live ∧
        accessCheck live.config.active .read (requestRange readFrame) = .ok .normal ∧ mirrorOnly readFrame = false ∧
        mirrorOffer .read readFrame (live.atFrame arr) = none) ∧
      ((withPort .isolated live).engine.port = .isolated ∧ (withPort .jammed live).engine.port = .jammed ∧
        live.engine.port ≠ .isolated ∧ live.engine.port ≠ .jammed) ∧
      (nodeIx? (nodeOf readFrame.node) = some 0 ∧ ((withNode .absent live).monitor.health[0]).state = .absent ∧
        ((withNode .disabled live).monitor.health[0]).state = .disabled ∧
        ((withNode .offline live).monitor.health[0]).state = .offline) ∧
      ((healthOf (poolFull live) (nodeOf readFrame.node)).inService = true ∧ hasRoom (poolFull live) .normal = false ∧
        RequestFormed .read readFrame (poolFull live)) ∧
      ((nodeOf write31.node).val = 31 ∧ RequestFormed .write write31 (poolFull live)) := by
  unfold Serving RequestFormed requestFits; decide +kernel

/-- A pool with `n` occupied slots. -/
def occupied (n : Nat) : State :=
  { live with
    pool := { live.pool with slots := Vector.ofFn fun i => if i.val < n then some (slotIn .replying) else none } }

/-- The pool at 27 and 28 occupied slots for NORMAL, at 31 and 32 for URGENT. -/
theorem witness_RequestsThatPassAreAdmittedAtQueueTail :
    (hasRoom (occupied 27) .normal = true ∧ hasRoom (occupied 28) .normal = false ∧
        hasRoom (occupied 31) .urgent = true ∧ hasRoom (occupied 32) .urgent = false) ∧
      (Serving live ∧ RequestFormed .read readFrame live ∧
        accessCheck live.config.active .read (requestRange readFrame) = .ok .normal ∧ mirrorOnly readFrame = false ∧
        mirrorOffer .read readFrame (live.atFrame arr) = none ∧ live.engine.port ≠ .isolated ∧
        live.engine.port ≠ .jammed ∧ (healthOf live (nodeOf readFrame.node)).inService = true ∧
        hasRoom live .normal = true) ∧
      (RequestFormed .write write31 live ∧
        accessCheck live.config.active .write (requestRange write31) = .ok .normal ∧
        mirrorOffer .write write31 (live.atFrame arr) = none ∧ (nodeOf write31.node).val = 31) := by
  unfold Serving RequestFormed; decide +kernel

theorem witness_AccessSearchAndCheckFollowFirstMatch :
    (1 ≤ (requestRange readFrame).count ∧ decidingEntry up.config.active (requestRange readFrame) = none) ∧
      decidingEntry live.config.active (requestRange readFrame) = some 0 ∧
      decidingEntry { tables with access := (Tables.cleared.access.set 0 narrow).set 47 permitAll }
          (requestRange readFrame) = some 47 := by decide +kernel

theorem witness_ReadIsServedFromLowestFreshCell :
    servingCell live (requestRange agedRead) 10 = some 0 ∧
      ((live.calendar.cells[0]).state = .fresh ∧ (live.config.active.poll[0]).node = (requestRange agedRead).node ∧
        (live.config.active.poll[0]).space = (requestRange agedRead).space ∧
        (live.config.active.poll[0]).address.toNat ≤ (requestRange agedRead).address.toNat ∧
        (requestRange agedRead).address.toNat + (requestRange agedRead).count ≤
          (live.config.active.poll[0]).address.toNat + (live.config.active.poll[0]).count ∧
        (live.calendar.cells[0]).updateStamp = some 990000#48 ∧
        (live.time.clock - 990000#48).toNat ≤ 10 * 1000) ∧
      (Serving live ∧ placesFull live = false ∧ RequestFormed .read agedRead live ∧
        accessCheck live.config.active .read (requestRange agedRead) = .ok .normal ∧ hasMaxAge agedRead = true ∧
        servingCell (live.atFrame arr) (requestRange agedRead) (maxAgeOf agedRead) = some 0 ∧
        (live.calendar.cells[0]).values = some [1, 2, 3, 4]) := by
  unfold Serving RequestFormed; decide +kernel

theorem witness_BroadcastWriteIsAdmittedOrDropped :
    (Serving live ∧ write31.node = 31#8 ∧ RequestFormed .write write31 live ∧
        accessCheck live.config.active .write (requestRange write31) = .ok .normal ∧ live.engine.port ≠ .isolated ∧
        live.engine.port ≠ .jammed ∧ hasRoom live .normal = true) ∧
      (requestFits .write writeFrame ∧ writeFrame.node ≠ 31#8) ∧
      (Serving up ∧ RequestFormed .write write31 up ∧
        accessCheck up.config.active .write (requestRange write31) = .error (.noMatch, 255)) ∧
      (Serving (withPort .jammed live) ∧ RequestFormed .write write31 (withPort .jammed live) ∧
        (withPort .jammed live).engine.port = .jammed) := by
  unfold Serving RequestFormed requestFits; decide +kernel

theorem witness_SlotCompletionPlacesReplyAndStalesCells :
    (1 ≤ (live.config.active.poll[0]).count ∧ 1 ≤ (requestRange readFrame).count) ∧
      (withSlot (slotIn .active) live).pool.slots[0] = some (slotIn .active) ∧
      overlaps live.config.active.poll[0] { node := 1, space := 0, address := 17#16, count := 1 } = true := by
  decide +kernel

theorem witness_AbortActsOnItsTarget :
    (Serving up ∧ placesFull up = false ∧ Sys2Proof.Downstream.fits (.abort (abortOf 64#8)) = true ∧
        abortFormFault (abortOf 64#8) = some .target) ∧
      (abortFormFault (abortOf 9#8) = none ∧ Serving (withSlot { slotIn .queued with tag := 15 } up) ∧
        placesFull (withSlot { slotIn .queued with tag := 15 } up) = false ∧
        tagInUse (withSlot { slotIn .queued with tag := 15 } up) (tagOf (abortOf 9#8).tag) = true) ∧
      (∀ state : SlotState, Serving (withSlot (slotIn state) up) ∧ placesFull (withSlot (slotIn state) up) = false ∧
        tagInUse (withSlot (slotIn state) up) (tagOf (abortOf 9#8).tag) = false ∧
        slotOfTag (withSlot (slotIn state) up) (tagOf (abortOf 9#8).target) = some 0 ∧
        (withSlot (slotIn state) up).pool.slots[0] = some (slotIn state)) ∧
      (Serving (withSession (.commitPending 1#8 9) up) ∧ placesFull (withSession (.commitPending 1#8 9) up) = false ∧
        tagInUse (withSession (.commitPending 1#8 9) up) (tagOf (abortOf 9#8).tag) = false ∧
        slotOfTag (withSession (.commitPending 1#8 9) up) (tagOf (abortOf 9#8).target) = none ∧
        tagOf (abortOf 9#8).target = 9) ∧
      (tagInUse up (tagOf (abortOf 9#8).tag) = false ∧ slotOfTag up (tagOf (abortOf 9#8).target) = none ∧
        up.config.session.heldTag ≠ some (tagOf (abortOf 9#8).target)) := by
  unfold Serving
  refine ⟨by decide +kernel, by decide +kernel, fun state => by cases state <;> decide +kernel, by decide +kernel,
    by decide +kernel⟩

/-- A slot that holds the tag of `manage`'s frames. -/
def tag7 : State :=
  withSlot { slotIn .queued with tag := 7 } up

theorem witness_ManageFramesAreCheckedInOrder :
    (Serving up ∧ placesFull up = false ∧ Sys2Proof.Downstream.fits (.manage 0x20#8 { manage [1] with node := 1#8 }) = true ∧
        manageFormFault { manage [1] with node := 1#8 } = some .node) ∧
      (Serving tag7 ∧ placesFull tag7 = false ∧ Sys2Proof.Downstream.fits (.manage 0x20#8 (manage [1])) = true ∧
        manageFormFault (manage [1]) = none ∧ tagInUse tag7 (tagOf (manage [1]).tag) = true) ∧
      (tagInUse up (tagOf (manage []).tag) = false ∧ (manage []).args.length ≠ ManageCode.nodeRead.argLength ∧
        manageFormFault (manage []) = none ∧ Sys2Proof.Downstream.fits (.manage 0x20#8 (manage [])) = true) ∧
      (Sys2Proof.Downstream.fits (.manage 0x15#8 { manage [1] with node := 1#8 }) = true ∧
        Sys2Proof.Downstream.fits (.manage 0x15#8 (manage [1])) = true) := by
  unfold Serving; decide +kernel

/-- The sessions CLOSED, OPEN and COMMIT_PENDING with id 1. -/
theorem witness_EditOpenOpensOnlyClosedSession :
    (Serving live ∧ ManagePasses .editOpen (manage []) live ∧ live.config.session = .closed ∧
        1#8 = (if live.config.lastId = 255#8 then 1#8 else live.config.lastId + 1#8)) ∧
      (Serving (withSession (.opened 1#8 9#48) live) ∧
        ManagePasses .editOpen (manage []) (withSession (.opened 1#8 9#48) live)) ∧
      (Serving (withSession (.commitPending 1#8 3) live) ∧
        ManagePasses .editOpen (manage []) (withSession (.commitPending 1#8 3) live)) := by
  unfold Serving ManagePasses; decide +kernel

theorem witness_EditCloseReloadsShadowAndCloses :
    (Serving live ∧ ManagePasses .editClose (manage [1]) live ∧ live.config.session = .closed) ∧
      (Serving (withSession (.opened 1#8 9#48) live) ∧
        ManagePasses .editClose (manage [1]) (withSession (.opened 1#8 9#48) live) ∧ argByte (manage [1]) 0 = 1#8) ∧
      (Serving (withSession (.commitPending 1#8 3) live) ∧
        ManagePasses .editClose (manage [1]) (withSession (.commitPending 1#8 3) live)) := by
  unfold Serving ManagePasses; decide +kernel

/-- ENTRY_WRITE arguments: id 1, table, index, mode, and an image. -/
def entryArgs (table index mode : Byte) (img : List Byte) : ManageFrame :=
  manage ([1#8, table, index, mode] ++ img)

/-- A NODE image: present, window 20 ms, retry limit 1, threshold 3, probe interval 1 s. -/
def nodeImage : List Byte :=
  [1#8, 20#8, 1#8, 3#8, 10#8, 0#8, 0#8, 0#8, 0#8, 0#8, 0#8, 0#8]

theorem witness_EntryWriteReplacesShadowEntry :
    (Serving live ∧ ManagePasses .entryWrite (entryArgs 3 1 0 nodeImage) live ∧
        argByte (entryArgs 3 1 0 nodeImage) 3 ≠ 1#8 ∧ argByte (entryArgs 3 1 0 nodeImage) 3 ≠ 2#8) ∧
      (ManagePasses .entryWrite (entryArgs 3 1 1 nodeImage) live ∧ argByte (entryArgs 3 1 1 nodeImage) 3 = 1#8 ∧
        live.config.session = .closed) ∧
      (Serving (withSession (.commitPending 1#8 3) live) ∧
        ManagePasses .entryWrite (entryArgs 3 1 2 nodeImage) (withSession (.commitPending 1#8 3) live) ∧
        argByte (entryArgs 3 1 2 nodeImage) 3 = 2#8) ∧
      (Serving (withSession (.opened 2#8 9#48) live) ∧
        ManagePasses .entryWrite (entryArgs 3 1 1 nodeImage) (withSession (.opened 2#8 9#48) live) ∧
        argByte (entryArgs 3 1 1 nodeImage) 0 ≠ 2#8) ∧
      (ManagePasses .entryWrite (entryArgs 3 31 1 nodeImage) (withSession (.opened 1#8 9#48) live) ∧
        argByte (entryArgs 3 31 1 nodeImage) 0 = 1#8 ∧ entryRef 3#8 31#8 = .error 255 ∧ entryRef 5#8 1#8 = .error 254) ∧
      (entryRef 3#8 1#8 = .ok (.node 0) ∧ imageFault (.node 0) (0#8 :: 0#8 :: nodeImage.drop 2) = some 2) ∧
      (ManagePasses .entryWrite (entryArgs 3 30 1 nodeImage) (withSession (.opened 1#8 9#48) live) ∧
        entryRef 3#8 30#8 = .ok (.node 29) ∧ imageFault (.node 29) ((entryArgs 3 30 1 nodeImage).args.drop 4) = none) := by
  unfold Serving ManagePasses; decide +kernel

theorem witness_EntryImagesReadBackAsWritten :
    (nodeImage.length = 12 ∧ imageFault (.node 29) nodeImage = none) ∧
      imageFault (.access 47) [1#8, 1#8, 31#8, 0xF1#8, 0#8, 0#8, 0#8, 0#8, 2#8, 0xFD#8, 32#8, 3#8] = none ∧
      imageFault (.poll 63) [1#8, 30#8, 3#8, 0xFF#8, 0xF8#8, 8#8, 64#8, 63#8, 8#8, 9#8, 9#8, 9#8] = none ∧
      imageFault .segment [3#8, 0xE8#8, 16#8, 0#8, 10#8, 1#8, 0#8, 50#8, 1#8, 0x2C#8, 7#8, 7#8] = none ∧
      EntryRef.node 0 ≠ .node 29 := by decide

theorem witness_EntryReadReturnsEntryOfBank :
    (Serving live ∧ ManagePasses .entryRead (manage [1, 4, 1, 1]) live ∧ entryRef 4#8 1#8 = .error 255) ∧
      (ManagePasses .entryRead (manage [1, 1, 3, 0]) live ∧ argByte (manage [1, 1, 3, 0]) 2 ≠ 1#8 ∧
        argByte (manage [1, 1, 3, 0]) 2 ≠ 2#8) ∧
      (ManagePasses .entryRead (manage [0, 1, 1, 47]) live ∧ entryRef 1#8 47#8 = .ok (.access 47) ∧
        argByte (manage [0, 1, 1, 47]) 2 = 1#8) ∧
      (ManagePasses .entryRead (manage [1, 2, 2, 63]) live ∧ entryRef 2#8 63#8 = .ok (.poll 63) ∧
        argByte (manage [1, 2, 2, 63]) 2 = 2#8 ∧ live.config.session = .closed) ∧
      (Serving (withSession (.opened 1#8 9#48) live) ∧
        ManagePasses .entryRead (manage [1, 4, 2, 0]) (withSession (.opened 1#8 9#48) live) ∧
        entryRef 4#8 0#8 = .ok .segment) ∧
      (Serving (withSession (.commitPending 1#8 3) live) ∧
        ManagePasses .entryRead (manage [1, 4, 2, 0]) (withSession (.commitPending 1#8 3) live)) := by
  unfold Serving ManagePasses; decide +kernel

/-- `live` with id 1 open and a SHADOW bank whose POLL entry 0 has its phase at its period. -/
def badPhase : State :=
  { live with
    config :=
      { live.config with
        shadow := { tables with poll := tables.poll.set 0 { pollOf 1 16#16 4 1 2 with phase := 1 } }
        session := .opened 1#8 9#48 } }

theorem witness_CommitBecomesPendingWhenChecksPass :
    (Serving live ∧ ManagePasses .commit (manage [1]) live ∧ live.config.session = .closed) ∧
      (Serving (withSession (.commitPending 1#8 3) live) ∧
        ManagePasses .commit (manage [1]) (withSession (.commitPending 1#8 3) live)) ∧
      (Serving (withSession (.opened 2#8 9#48) live) ∧
        ManagePasses .commit (manage [1]) (withSession (.opened 2#8 9#48) live) ∧ argByte (manage [1]) 0 ≠ 2#8) ∧
      (Serving badPhase ∧ ManagePasses .commit (manage [1]) badPhase ∧ badPhase.config.session = .opened 1#8 9#48 ∧
        tablesFault badPhase.config.shadow = some (.phase, 0)) ∧
      (ManagePasses .commit (manage [1]) (withSession (.opened 1#8 9#48) live) ∧ argByte (manage [1]) 0 = 1#8 ∧
        tablesFault live.config.shadow = none) := by
  unfold Serving ManagePasses; decide +kernel

/-- Nodes 1 and 30, cells 0 and 63, and the numbers next to them. -/
theorem witness_NodeReadAndCellReadReturnRecords :
    (Serving live ∧ ManagePasses .nodeRead (manage [1]) live ∧ (argByte (manage [1]) 0).toNat = (0 : NodeIx).val + 1 ∧
        (argByte (manage [30]) 0).toNat = (29 : NodeIx).val + 1) ∧
      (ManagePasses .nodeRead (manage [0]) live ∧ argByte (manage [0]) 0 = 0#8 ∧ 30 < (argByte (manage [31]) 0).toNat) ∧
      (ManagePasses .cellRead (manage [0]) live ∧ (argByte (manage [0]) 0).toNat = (0 : CellIx).val ∧
        (argByte (manage [63]) 0).toNat = (63 : CellIx).val) ∧
      (ManagePasses .cellRead (manage [64]) live ∧ 63 < (argByte (manage [64]) 0).toNat) := by
  unfold Serving ManagePasses; decide +kernel

theorem witness_NodeDisableTakesNodeOutOfService :
    (∀ state : HealthState, Serving (withNode state live) ∧ ManagePasses .nodeDisable (manage [1]) (withNode state live) ∧
      (argByte (manage [1]) 0).toNat = (0 : NodeIx).val + 1 ∧
      ((withNode state live).monitor.health[0]).state = state) ∧
      (ManagePasses .nodeDisable (manage [0]) live ∧ argByte (manage [0]) 0 = 0#8) ∧
      (ManagePasses .nodeDisable (manage [31]) live ∧ 30 < (argByte (manage [31]) 0).toNat) := by
  unfold Serving ManagePasses
  exact ⟨fun state => by cases state <;> decide +kernel, by decide +kernel, by decide +kernel⟩

/-- Node 1 OFFLINE with its timer armed, or with its claim LISTED. -/
def offlineNode (claim : ProbeClaim) (port : PortState) : State :=
  withPort port
    { live with
      monitor :=
        { live.monitor with
          health :=
            live.monitor.health.set 0
              { Health.cleared .offline with
                claim := claim, probeDue := if claim = .none then some 2000000#48 else none } } }

theorem witness_NodeEnableAndReviveFollowHealthState :
    ((∀ state : HealthState, Serving (withNode state live) ∧ ManagePasses .nodeEnable (manage [1]) (withNode state live) ∧
          (argByte (manage [1]) 0).toNat = (0 : NodeIx).val + 1 ∧
          ((withNode state live).monitor.health[0]).state = state) ∧
        (ManagePasses .nodeEnable (manage [0]) live ∧ argByte (manage [0]) 0 = 0#8 ∧
          30 < (argByte (manage [31]) 0).toNat) ∧
        ManagePasses .nodeRevive (manage [0]) live ∧ ManagePasses .nodeRevive (manage [31]) live) ∧
      (∀ port : PortState, Serving (offlineNode .none port) ∧ ManagePasses .nodeRevive (manage [1]) (offlineNode .none port) ∧
        ((offlineNode .none port).monitor.health[0]).state = .offline ∧
        ((offlineNode .none port).monitor.health[0]).claim = .none ∧
        ((offlineNode .none port).monitor.health[0]).probeDue.isSome = true ∧
        (offlineNode .none port).engine.port = port) ∧
      (Serving (offlineNode .listed .idle) ∧ ManagePasses .nodeRevive (manage [1]) (offlineNode .listed .idle) ∧
        ((offlineNode .listed .idle).monitor.health[0]).claim ≠ .none) ∧
      (∀ state : HealthState, Serving (withNode state live) ∧ ManagePasses .nodeRevive (manage [1]) (withNode state live) ∧
        ((withNode state live).monitor.health[0]).state = state) := by
  unfold Serving ManagePasses
  exact ⟨⟨fun state => by cases state <;> decide +kernel, by decide +kernel, by decide +kernel, by decide +kernel⟩,
    fun port => by cases port <;> decide +kernel, by decide +kernel, fun state => by cases state <;> decide +kernel⟩

/-- A port state, with a pending isolate or none. -/
def isolating (port : PortState) (tag : Option Tag) : State :=
  { live with engine := { live.engine with port := port, pendingIsolate := tag } }

/-- A host transaction of slot 0 in a port state. -/
def hosting (port : PortState) (state : SlotState) : State :=
  withTxn port hostRead (withSlot (slotIn state) live)

def probeRead : Txn :=
  { hostRead with claimant := .probe 0, space := 3, address := 0#16 }

theorem witness_DropIsolateTakesEffectOrPends :
    (live.engine.txn = none ∧
        ((hosting .guard .active).engine.txn = some hostRead ∧ hostRead.claimant = .host 0 ∧
          (hosting .guard .active).pool.slots[0] = some (slotIn .active) ∧ (slotIn .active).state ≠ .abortPending) ∧
        ((hosting .guard .abortPending).pool.slots[0] = some (slotIn .abortPending) ∧
          (slotIn .abortPending).state = .abortPending) ∧
        ((withTxn .guard pollRead live).engine.txn = some pollRead ∧ pollRead.claimant = .poll 0) ∧
        (withTxn .guard probeRead live).engine.txn = some probeRead ∧ probeRead.claimant = .probe 0) ∧
      (∀ port : PortState, Serving (isolating port none) ∧ ManagePasses .dropIsolate (manage []) (isolating port none) ∧
        (isolating port none).engine.port = port ∧ (isolating port none).engine.pendingIsolate = none) ∧
      (Serving (isolating .sending (some 3)) ∧ ManagePasses .dropIsolate (manage []) (isolating .sending (some 3)) ∧
        (isolating .sending (some 3)).engine.pendingIsolate.isSome = true) := by
  unfold Serving ManagePasses
  exact ⟨by decide +kernel, fun port => by cases port <;> decide +kernel, by decide +kernel⟩

theorem witness_DropResumeLeavesIsolationOrCancels :
    (∀ port : PortState, Serving (isolating port none) ∧ ManagePasses .dropResume (manage []) (isolating port none) ∧
        (isolating port none).engine.port = port ∧ (isolating port none).engine.pendingIsolate = none) ∧
      (Serving (isolating .awaiting (some 3)) ∧ ManagePasses .dropResume (manage []) (isolating .awaiting (some 3)) ∧
        (isolating .awaiting (some 3)).engine.port = .awaiting ∧
        (isolating .awaiting (some 3)).engine.pendingIsolate = some 3) := by
  unfold Serving ManagePasses
  exact ⟨fun port => by cases port <;> decide +kernel, by decide +kernel⟩

/-- The loss record IN_FLIGHT with sequence 5, and a held loss. -/
def lossFlying : State :=
  { up with
    notices :=
      { up.notices with
        loss := some (record .noticesLost none (some inFlight5))
        heldLoss := some { count := 2, kind := .relayLoss, first := 1#48, last := 2#48 } } }

theorem witness_NoticeAckAndMaskChangeTheQueue :
    (Serving lossFlying ∧ ManagePasses .noticeAck (manage [5]) lossFlying ∧
        lossFlying.notices.loss = some (record .noticesLost none (some inFlight5)) ∧
        inFlight5.sequence = argByte (manage [5]) 0) ∧
      (Serving flying ∧ ManagePasses .noticeAck (manage [5]) flying ∧
        flying.notices.loss.all (fun r => r.flight.isNone) = true ∧
        flying.notices.inFlight.bind NoticeRecord.flight = some inFlight5) ∧
      (Serving up ∧ ManagePasses .noticeAck (manage [5]) up ∧ up.notices.inFlight = none) ∧
      (ManagePasses .noticeAck (manage [6]) flying ∧ inFlight5.sequence ≠ argByte (manage [6]) 0) ∧
      (ManagePasses .noticeMask (manage [0x0F, 0xE0]) up ∧ 0x0FE0#16 = word16 0x0F#8 0xE0#8 ∧
        ∀ k : Fin 16, (0x0FE0#16).getLsbD k.val = true → 5 ≤ k.val ∧ k.val ≤ 11) ∧
      (ManagePasses .noticeMask (manage [0x10, 0x10]) up ∧ (0x1010#16).getLsbD 12 = true ∧
        (0x1010#16).getLsbD 4 = true) := by
  unfold Serving ManagePasses; decide +kernel

theorem witness_ClockReadAndEpochSetUseArrivalInstant :
    (Serving up ∧ ManagePasses .clockRead (manage []) up) ∧ ManagePasses .epochSet (manage [1, 2, 3, 4, 5, 6]) up ∧
      (manageFormFault (manage [1, 2, 3, 4, 5, 6]) = none ∧ (manage [1, 2, 3, 4, 5, 6]).args.length = 6) ∧
      (Sys2Proof.Downstream.fits (.manage 0x61#8 (manage [1])) = true ∧ (manage [1]).args.length ≠ 6) ∧
      manageFormFault { manage [1] with argLength := 6#8 } ≠ none := by
  unfold Serving ManagePasses; decide +kernel

theorem witness_StatusAndCountersAreReported :
    (Serving up ∧ ManagePasses .statusRead (manage []) up) ∧
      (ManagePasses .countersRead (manage [1, 1]) up ∧ argByte (manage [1, 1]) 1 = 1#8 ∧ argByte (manage [1, 1]) 0 = 1#8) ∧
      (argByte (manage [0, 1]) 0 = 0#8 ∧ ManagePasses .countersRead (manage [0, 1]) up) ∧
      (ManagePasses .countersRead (manage [0, 2]) up ∧ argByte (manage [0, 2]) 1 = 2#8 ∧ argByte (manage [0, 2]) 0 = 0#8) ∧
      (ManagePasses .countersRead (manage [1, 2]) up ∧
        ¬ (argByte (manage [1, 2]) 1 = 1#8 ∧ (argByte (manage [1, 2]) 0 = 0#8 ∨ argByte (manage [1, 2]) 0 = 1#8)) ∧
        ¬ (argByte (manage [1, 2]) 1 = 2#8 ∧ argByte (manage [1, 2]) 0 = 0#8)) := by
  unfold Serving ManagePasses; decide +kernel

theorem witness_SegmentResetSoftResetsEveryBlock :
    (Serving live ∧ ManagePasses .segmentReset (manage []) live) ∧
      (manageFormFault (manage []) = none ∧ (manage []).args = []) ∧
      (Sys2Proof.Downstream.fits (.manage 0x72#8 (manage [1])) = true ∧ (manage [1]).args ≠ []) := by
  unfold Serving ManagePasses; decide +kernel

/-- Claimants of each rank waiting in IDLE. -/
def claims (urgent : List SlotIx) (due : List CellIx) (probes : List NodeIx) (normal bulk : List SlotIx) (credit : Nat) :
    State :=
  let s := withSlot (slotIn .queued) live
  { s with
    pool := { s.pool with urgent := urgent, normal := normal, bulk := bulk, credit := credit }
    calendar := { s.calendar with dueList := due }
    monitor := { s.monitor with probeList := probes } }

theorem witness_GrantFollowsRankAndBulkCredit :
    (withPort .guard live).engine.port ≠ .idle ∧
      (live.engine.port = .idle ∧ live.pool.urgent = [] ∧ live.calendar.dueList = [] ∧ live.monitor.probeList = [] ∧
        live.pool.normal = [] ∧ live.pool.bulk = []) ∧
      ((claims [0] [0] [0] [0] [0] 0).engine.port = .idle ∧ (claims [0] [0] [0] [0] [0] 0).pool.urgent = [0]) ∧
      (claims [] [0] [0] [0] [0] 0).calendar.dueList = [0] ∧ (claims [] [] [0] [0] [0] 0).monitor.probeList = [0] ∧
      ((claims [] [] [] [0] [] 4).pool.normal = [0] ∧ (claims [] [] [] [0] [] 4).pool.bulk = []) ∧
      ((claims [] [] [] [0] [0] 3).pool.bulk ≠ [] ∧
        (claims [] [] [] [0] [0] 3).pool.credit < (claims [] [] [] [0] [0] 3).config.active.segment.bulkShare) ∧
      ((claims [] [] [] [0] [0] 4).pool.bulk = [0] ∧
        (claims [] [] [] [0] [0] 4).config.active.segment.bulkShare ≤ (claims [] [] [] [0] [0] 4).pool.credit) ∧
      (claims [] [] [] [] [0] 0).pool.normal = [] ∧
      (claims [0] [0] [0] [0] [0] 0).pool.slots[0] = some (slotIn .queued) := by decide +kernel

/-- A state in GUARD with instants of the line's last activity and of entry. -/
def guarding (activity entry : Stamp) (s : State) : State :=
  { s with engine := { s.engine with lastActivity := activity, guardEntry := entry } }

/-- A gap of 1562 µs and a limit of 100 ms: silent for 1562 µs, 100 ms after entry and less; for 1561 µs; and for the gap
only 1 µs after the limit. -/
theorem witness_GuardSilenceBeginsAttempt :
    (let s := guarding 998438#48 900000#48 (hosting .guard .active)
     (s.held = none ∧ s.engine.port = .guard ∧ s.engine.txn = some hostRead ∧ hostRead.claimant = .host 0 ∧
        s.pool.slots[0] = some (slotIn .active)) ∧
      ctMicros s.rate s.engine.guardGap = 1562 ∧ (s.time.clock + BitVec.ofNat 48 0 - s.engine.lastActivity).toNat = 1562 ∧
        (s.time.clock + BitVec.ofNat 48 0 - s.engine.guardEntry).toNat = 100000 ∧
        100000 + 1562 ≤ 1562 + s.engine.busyLimit * 1000) ∧
      ((withTxn .guard pollRead live).engine.txn = some pollRead ∧ (∀ i, pollRead.claimant ≠ .host i) ∧
        guardSilent (advance 0 (withTxn .guard pollRead live)) = true ∧
        gapFirst 0#48 (advance 0 (withTxn .guard pollRead live)) = true) ∧
      (let s := guarding 998439#48 900000#48 (hosting .guard .active)
       (s.time.clock + BitVec.ofNat 48 0 - s.engine.lastActivity).toNat < ctMicros s.rate s.engine.guardGap) ∧
      (let s := guarding 998438#48 899999#48 (hosting .guard .active)
       (s.time.clock + BitVec.ofNat 48 0 - s.engine.lastActivity).toNat + s.engine.busyLimit * 1000 <
        (s.time.clock + BitVec.ofNat 48 0 - s.engine.guardEntry).toNat + ctMicros s.rate s.engine.guardGap) ∧
      (let s := onLine 999900#48 [0xC5#8] live
       s.engine.dropDE = true ∧ s.engine.txStart = some 999900#48 ∧ s.engine.txFrame[0]? = some 0xC5#8 ∧
        (10 * 0 + 1) * 1000000 ≤ (s.time.clock - 999900#48).toNat * Config.bitRate s.rate ∧
        (s.time.clock - 999900#48).toNat * Config.bitRate s.rate < (10 * 0 + 1 + 1) * 1000000) ∧
      live.engine.dropDE = false := by
  decide +kernel

/-- The end of a silence and the end of the limit 1 µs apart: each refuses the other's command (R28). -/
theorem test_gap_or_limit_first :
    (after (.guardSilenceReached 0) (guarding 998437#48 899999#48 (hosting .guard .active))).engine.port = .sending ∧
      (after (.busyLimitInGuard 0) (guarding 998437#48 899998#48 (hosting .guard .active))).engine.port = .jammed ∧
      (after (.busyLimitInGuard 0) (guarding 998437#48 900000#48 (hosting .guard .active))).engine.port = .guard ∧
      (after (.guardSilenceReached 0) (guarding 998438#48 899999#48 (hosting .guard .active))).engine.port = .guard := by
  decide +kernel

/-- A SENDING tail of one character, with a waiting isolate or none. -/
def tail (tag : Option Tag) : State :=
  onLine 999480#48 [0xC5#8] { live with engine := { live.engine with pendingIsolate := tag } }

/-- A transaction in SENDING whose frame of ten characters at most has taken 10 ms, or 1 ms. -/
def sendingSince (start : Stamp) (x : Txn) : State :=
  onLine start (requestFrame x) (withTxn .sending x (withSlot (slotIn .active) live))

theorem witness_SendingEndsInAwaitingOrOk :
    (∀ x ∈ [hostRead, broadcast31],
        (sendingSince 990000#48 x).held = none ∧ (sendingSince 990000#48 x).engine.port = .sending ∧
          (sendingSince 990000#48 x).engine.txn = some x ∧
          (sendingSince 990000#48 x).engine.txStart = some 990000#48 ∧
          ctMicros (sendingSince 990000#48 x).rate (sendingSince 990000#48 x).engine.txFrame.length ≤
            ((sendingSince 990000#48 x).time.clock + BitVec.ofNat 48 0 - 990000#48).toNat) ∧
      (nodeIx? hostRead.node = some 0 ∧ broadcast31.node.val = 31) ∧
      (hostRead.claimant = .host 0 ∧ (sendingSince 990000#48 hostRead).pool.slots[0] = some (slotIn .active) ∧
        ∀ i, pollRead.claimant ≠ .host i) ∧
      (∀ tag ∈ [none, some 3],
        (tail tag).held = none ∧ (tail tag).engine.port = .sending ∧ (tail tag).engine.txn = none ∧
          (tail tag).engine.pendingIsolate = tag ∧ (tail tag).engine.txStart = some 999480#48 ∧
          ctMicros (tail tag).rate (tail tag).engine.txFrame.length ≤
            ((tail tag).time.clock + BitVec.ofNat 48 0 - 999480#48).toNat ∧
          ((tail tag).time.clock - BitVec.ofNat 48 1 - 999480#48).toNat <
            ctMicros (tail tag).rate (tail tag).engine.txFrame.length) ∧
      ((sendingSince 999000#48 hostRead).time.clock + BitVec.ofNat 48 0 - 999000#48).toNat <
        ctMicros (sendingSince 999000#48 hostRead).rate (sendingSince 999000#48 hostRead).engine.txFrame.length ∧
      live.engine.port ≠ .sending := by
  decide +kernel

/-- R30, R48: the end of a frame is taken when its last character has ended, and not before. -/
theorem test_frame_end_is_its_last_character :
    (after (.requestFrameSent 0) (sendingSince 990000#48 hostRead)).engine.port = .awaiting ∧
      (after (.requestFrameSent 0) (sendingSince 999000#48 hostRead)).engine.port = .sending ∧
      (after (.sendingTailEnd 0) (tail none)).engine.port = .idle := by decide +kernel

/-- A response being received. -/
def receiving (buffer : List Byte) (discard : Option DiscardDetail) : State :=
  let s := hosting .receiving .active
  { s with
    engine :=
      { s.engine with
        rxBuffer := buffer, discard := discard, discardStart := discard.map fun _ => 900000#48
        lastActivity := 990000#48 } }

/-- Buffers of 3, 4, 5 and 8 bytes before the next character, and the counts 32 and 33 at byte 4. -/
theorem witness_CharactersAreTakenAndResponsesChecked :
    (∀ port : PortState, (withPort port live).held = none ∧ (withPort port live).engine.port = port) ∧
      ((receiving [0xC6, 1, 0x81] none).engine.txn = some hostRead ∧
        (receiving [0xC6, 1, 0x81] none).engine.discard = none ∧
        ((receiving [0xC6, 1, 0x81] none).engine.rxBuffer ++ [0#8]).length < 5) ∧
      (5 ≤ ((receiving [0xC6, 1, 0x81, 0] none).engine.rxBuffer ++ [33#8]).length ∧
        72 < expectedLength ((receiving [0xC6, 1, 0x81, 0] none).engine.rxBuffer ++ [33#8])) ∧
      (expectedLength ((receiving [0xC6, 1, 0x81, 0] none).engine.rxBuffer ++ [32#8]) ≤ 72 ∧
        ((receiving [0xC6, 1, 0x81, 0] none).engine.rxBuffer ++ [32#8]).length <
          expectedLength ((receiving [0xC6, 1, 0x81, 0] none).engine.rxBuffer ++ [32#8])) ∧
      (expectedLength [0xC6, 1, 0x81, 0, 1, 0, 7, 0, 0] ≤ ([0xC6, 1, 0x81, 0, 1, 0, 7, 0, 0] : List Byte).length) ∧
      (receiving [0xC6] (some .framing)).engine.discard.isSome = true := by
  refine ⟨fun port => by cases port <;> decide +kernel, by decide +kernel⟩

theorem witness_AttemptsEndInRetryOrFinalOutcome :
    (attemptsOf (hosting .awaiting .active) hostRead ≤ retryLimitOf (hosting .awaiting .active) hostRead ∧
        abortIsPending (hosting .awaiting .active) hostRead = false ∧
        (hosting .awaiting .active).engine.pendingIsolate = none) ∧
      abortIsPending (hosting .awaiting .abortPending) hostRead = true ∧
      (nodeIx? hostRead.node = some 0 ∧ ∀ m, hostRead.claimant ≠ .probe m) ∧
      (let s := hosting .awaiting .active
       let s' := { s with engine := { s.engine with deadline := some 1000005#48 } }
       s'.held = none ∧ s'.engine.deadline = some 1000005#48 ∧ 1000005#48 ≤ s'.time.clock + BitVec.ofNat 48 5 ∧
         s'.time.clock + BitVec.ofNat 48 4 < 1000005#48) ∧
      ((receiving [0xC6] none).held = none ∧ (receiving [0xC6] none).engine.port = .receiving ∧
        (receiving [0xC6] none).engine.txn = some hostRead ∧ (receiving [0xC6] none).engine.discard = none ∧
        ctMicros (receiving [0xC6] none).rate 4 ≤
          ((receiving [0xC6] none).time.clock + BitVec.ofNat 48 0 - (receiving [0xC6] none).engine.lastActivity).toNat) ∧
      ((receiving [0xC6] (some .framing)).engine.discard = some .framing ∧
        ctMicros (receiving [0xC6] (some .framing)).rate (receiving [0xC6] (some .framing)).engine.guardGap ≤ 10000 ∧
        (receiving [0xC6] (some .framing)).engine.discardStart = some 900000#48 ∧
        (receiving [0xC6] (some .framing)).engine.busyLimit * 1000 ≤
          ((receiving [0xC6] (some .framing)).time.clock + BitVec.ofNat 48 0 - 900000#48).toNat) := by
  decide +kernel

theorem witness_FinalOutcomeIsHandedOnInOrder :
    ((hosting .awaiting .active).engine.pendingIsolate = none ∧
        (isolating .awaiting (some 3)).engine.pendingIsolate = some 3) ∧
      (pollRead.claimant = .poll 0 ∧ probeRead.claimant = .probe 0 ∧
        ((withNode .offline live).monitor.health[0]).state = .offline ∧
        (live.monitor.health[0]).state ≠ .offline) ∧
      (let s :=
        { live with engine := { live.engine with endOfRequest := some 900000#48, firstChar := some 901000#48 } }
       s.engine.endOfRequest = some 900000#48 ∧ s.engine.firstChar = some 901000#48) ∧
      (hostRead.claimant = .host 0 ∧ (hosting .awaiting .active).pool.slots[0] = some (slotIn .active) ∧
        (slotIn .active).state ≠ .abortPending) ∧
      (hosting .awaiting .abortPending).pool.slots[0] = some (slotIn .abortPending) ∧
      ((∀ m, hostRead.claimant ≠ .probe m) ∧ nodeIx? hostRead.node = some 0) ∧
      (broadcast31.node.val = 31 ∧ ∀ m, broadcast31.claimant ≠ .probe m) := by decide +kernel

/-- Node 1 with a number of failures; its threshold is 3. -/
def failing (state : HealthState) (failures : Nat) : Health :=
  { Health.cleared state with failures := failures }

theorem witness_OutcomesMoveNodeHealth :
    (∀ state : HealthState, ((withNode state live).monitor.health[0]).state = state) ∧ (1 : NodeIx) ≠ 0 ∧
      (live.repeater = false ∧
        ({ Health.cleared .offline with offlineSince := some 9#48 } : Health).offlineSince = some 9#48) ∧
      (live.config.active.node[0]).threshold ≤ min 15 ((failing .suspect 2).failures + 1) ∧
      min 15 ((failing .suspect 1).failures + 1) < (live.config.active.node[0]).threshold := by
  exact ⟨fun state => by cases state <;> decide +kernel, by decide +kernel⟩

theorem witness_PollOutcomeReachesCellOfItsKey :
    (entryOfKey live.config.active { node := 1, space := 0, address := 16#16, count := 4 } = some 0 ∧
        healthOf live 1 ≠ .disabled ∧ healthOf live 1 ≠ .absent) ∧
      entryOfKey live.config.active { node := 1, space := 0, address := 16#16, count := 3 } = none ∧
      healthOf (withNode .disabled live) 1 = .disabled ∧ healthOf (withNode .absent live) 1 = .absent := by
  decide +kernel

/-- A limit of 100 ms reached 100 ms after entry, the line active 1 ms ago, or silent since entry. -/
def busyWith (x : Txn) (state : SlotState) : State :=
  guarding 999000#48 900000#48 (withTxn .guard x (withSlot (slotIn state) live))

/-- JAMMED since 800 000 µs, the line silent for 100 ms. -/
def jammed : State :=
  let s := withPort .jammed live
  { s with engine := { s.engine with lastActivity := 900000#48, jamStart := some 800000#48 } }

theorem witness_BusyLineJamsPortAndSilenceRestoresIt :
    (∀ x ∈ [hostRead, pollRead, probeRead], ∀ state ∈ [SlotState.active, SlotState.abortPending],
        (busyWith x state).held = none ∧ (busyWith x state).repeater = false ∧ (busyWith x state).engine.port = .guard ∧
          (busyWith x state).engine.txn = some x ∧
          ((busyWith x state).time.clock + BitVec.ofNat 48 0 - (busyWith x state).engine.lastActivity).toNat = 1000 ∧
          ((busyWith x state).time.clock + BitVec.ofNat 48 0 - (busyWith x state).engine.guardEntry).toNat = 100000 ∧
          (busyWith x state).engine.busyLimit * 1000 ≤ 100000 ∧
          1000 + (busyWith x state).engine.busyLimit * 1000 ≤
            100000 + ctMicros (busyWith x state).rate (busyWith x state).engine.guardGap) ∧
      (let s := guarding 999000#48 900001#48 (busyWith hostRead .active)
       (s.time.clock + BitVec.ofNat 48 0 - s.engine.guardEntry).toNat < s.engine.busyLimit * 1000) ∧
      (let s := guarding 998437#48 900000#48 (busyWith hostRead .active)
       (s.time.clock + BitVec.ofNat 48 0 - s.engine.guardEntry).toNat + ctMicros s.rate s.engine.guardGap <
        (s.time.clock + BitVec.ofNat 48 0 - s.engine.lastActivity).toNat + s.engine.busyLimit * 1000) ∧
      (jammed.held = none ∧ jammed.engine.port = .jammed ∧ jammed.engine.jamStart = some 800000#48 ∧
        jammed.engine.busyLimit * 1000 ≤
          (jammed.time.clock + BitVec.ofNat 48 0 - jammed.engine.lastActivity).toNat) := by
  decide +kernel

theorem witness_BoundaryAccountsLeftoversAndFormsDueList :
    (live.held = none ∧ live.repeater = false ∧ live.config.session.heldTag = none ∧
        live.calendar.nextBoundary ≤ live.time.clock + BitVec.ofNat 48 0) ∧
      ((claims [] [0] [] [] [] 0).config.session.heldTag = none ∧ (0 : CellIx) ∈ (claims [] [0] [] [] [] 0).calendar.dueList ∧
        (claims [] [0] [] [] [] 0).calendar.dueList.Nodup ∧ (1 : CellIx) ∉ (claims [] [0] [] [] [] 0).calendar.dueList) ∧
      ({ live with time := { clock := 999999#48, epoch := 0#48 } : State }.time.clock + BitVec.ofNat 48 0 <
        live.calendar.nextBoundary) := by decide +kernel

/-- `PoolConsistent` in a form that can be decided: what it asks of each class, slot and pair of slots. -/
def poolAgrees (s : State) : Bool :=
  ([.urgent, .normal, .bulk] : List Machine.Class).all (fun cls =>
      decide (s.pool.queueOf cls).Nodup &&
        (List.finRange 32).all fun i =>
          decide (i ∈ s.pool.queueOf cls) ==
            (s.pool.slots[i]).any (fun slot => decide (slot.state = .queued ∧ slot.cls = cls))) &&
    decide (slotPart s).Nodup &&
    (List.finRange 32).all (fun i =>
      decide (i ∈ slotPart s) == (s.pool.slots[i]).any (fun slot => decide (slot.state = .replying)) &&
        ((s.pool.slots[i]).any (fun slot => decide (slot.state = .active ∨ slot.state = .abortPending)) ==
          decide (s.engine.txn.map Txn.claimant = some (.host i))) &&
        (s.pool.slots[i]).all (fun slot =>
          decide
            ((slot.state = .queued → slot.attempts = 0 ∧ slot.sentOnce = false) ∧
              (slot.outcome.isSome = true ↔ slot.state = .replying) ∧ s.config.session.heldTag ≠ some slot.tag ∧
              s.engine.pendingIsolate ≠ some slot.tag ∧
              ∀ j : SlotIx, (s.pool.slots[j]).all (fun b => decide (slot.tag = b.tag → i = j)) = true))) &&
    decide (∀ tag, s.config.session.heldTag = some tag → s.engine.pendingIsolate ≠ some tag) &&
    decide (s.engine.port = .idle ∨ s.engine.port = .jammed ∨ s.engine.port = .isolated → s.engine.txn = none)

theorem slotHolds_any (s : State) (i : SlotIx) (p : Slot → Prop) [DecidablePred p] :
    slotHolds s i p ↔ (s.pool.slots[i]).any (fun slot => decide (p slot)) = true := by
  unfold slotHolds
  cases s.pool.slots[i] <;> simp

theorem poolAgrees_sound (s : State) (h : poolAgrees s = true) : PoolConsistent s := by
  simp only [poolAgrees, Bool.and_eq_true, List.all_eq_true, decide_eq_true_eq, List.mem_finRange, forall_const,
    beq_iff_eq] at h
  obtain ⟨⟨⟨⟨hq, hn⟩, hs⟩, hp⟩, ht⟩ := h
  have hc : ∀ cls : Machine.Class, cls ∈ ([.urgent, .normal, .bulk] : List Machine.Class) := by
    intro cls; cases cls <;> simp
  have held : ∀ (i : SlotIx) (slot : Slot), s.pool.slots[i] = some slot → _ := fun i slot hi => by
    have := (hs i).2
    rw [hi, Option.all_some, decide_eq_true_eq] at this
    exact this
  refine ⟨⟨fun c i => ?_, fun c => (hq c (hc c)).1, fun i slot hi => ⟨(held i slot hi).1, (held i slot hi).2.1⟩⟩,
    ⟨hn, fun i => ?_⟩, ⟨fun i => ?_, ht⟩, fun i j a b ha hb hab => ?_, fun i a ha => (held i a ha).2.2.imp_right And.left,
    hp⟩
  · rw [slotHolds_any, ← decide_eq_true_iff (p := i ∈ s.pool.queueOf c), (hq c (hc c)).2 i]
  · rw [slotHolds_any, ← decide_eq_true_iff (p := i ∈ slotPart s), (hs i).1.1]
  · rw [slotHolds_any, ← decide_eq_true_iff (p := s.engine.txn.map Txn.claimant = some (.host i)), ← (hs i).1.2]
  · have := (held i a ha).2.2.2.2 j
    rw [hb, Option.all_some, decide_eq_true_eq] at this
    exact this hab

theorem test_pools_agree :
    poolAgrees seq6 = true ∧ poolAgrees (hosting .guard .active) = true ∧ poolAgrees State.reset = true ∧
      poolAgrees (withPort .idle (hosting .guard .active)) = false := by decide +kernel

theorem witness_BoundaryAppliesPendingCommit :
    PoolConsistent seq6 ∧ MonitorConsistent seq6 ∧ (seq6.held = none ∧ seq6.repeater = false ∧ seq6.config.session = .commitPending 1#8 7 ∧
        seq6.calendar.nextBoundary ≤ seq6.time.clock + BitVec.ofNat 48 0 ∧
        2#32 = (if seq6.config.generation = 0xFFFFFFFF#32 then 1#32 else seq6.config.generation + 1#32)) ∧
      ((live.config.active.poll[1]).used = false ∧
        entryOfKey Tables.cleared (live.config.active.poll[0]).key = none) ∧
      ((live.config.active.poll[0]).used = true ∧ entryOfKey tables (live.config.active.poll[0]).key = some 0 ∧
        (live.calendar.cells[0]).state = .fresh ∧ (live.calendar.cells[0]).updateStamp = some 990000#48 ∧
        (up.calendar.cells[0]).state ≠ .fresh) := by
  refine ⟨poolAgrees_sound _ test_pools_agree.1, ?_, by decide +kernel⟩
  unfold MonitorConsistent HealthFollowsTables ClaimsAreHeld DueListServes
  decide +kernel

/-- Each timer at its instant, the freshness limit 1 µs past. -/
theorem witness_TimersExpireAtTheirInstants :
    (live.held = none ∧ (live.calendar.cells[0]).state = .fresh ∧ (live.calendar.cells[0]).limit = some 1010000#48) ∧
      ((offlineNode .none .idle).held = none ∧
        ((offlineNode .none .idle).monitor.health[0]).probeDue = some 2000000#48 ∧
        2000000#48 ≤ (offlineNode .none .idle).time.clock + BitVec.ofNat 48 1000000 ∧
        (offlineNode .none .idle).engine.port ≠ .jammed ∧ (offlineNode .none .idle).engine.port ≠ .isolated ∧
        (offlineNode .none .jammed).engine.port = .jammed) ∧
      ((withSession (.opened 1#8 1000000#48) live).config.session = .opened 1#8 1000000#48 ∧
        1000000#48 ≤ live.time.clock + BitVec.ofNat 48 0) ∧
      (flying.held = none ∧ flying.notices.resend = some 1000000#48) := by decide +kernel

theorem witness_RaisesMergeMakeOrGiveWay :
    ({ seq8 with mask := 0x0800#16 } : NoticeQueue).mask.getLsbD NoticeKind.configApplied.code = true ∧
      (seq8.mask.getLsbD NoticeKind.cycleOverrun.code = false ∧
        seq8.ordinary = seq8.ordinary.take 2 ++ record .cycleOverrun none none :: seq8.ordinary.drop 3 ∧
        (seq8.ordinary.take 2).all
          (fun x => !(x.flight.isNone && x.kind == .cycleOverrun && x.node == none)) = true) ∧
      (up.notices.mask.getLsbD NoticeKind.configApplied.code = false ∧ up.notices.ordinary.length < 24 ∧
        up.notices.ordinary.all
          (fun x => !(x.flight.isNone && x.kind == .configApplied && x.node == none)) = true) ∧
      (24 ≤ seq8.ordinary.length ∧ bottomUnsentKind seq8.ordinary = some .accessRefused ∧
        NoticeKind.accessRefused.code ≤ NoticeKind.accessRefused.code ∧
        NoticeKind.nodeRecovered.code < NoticeKind.accessRefused.code ∧
        seq8.ordinary.all
          (fun x => !(x.flight.isNone && x.kind == .nodeRecovered && x.node == some 3)) = true ∧
        seq8.ordinary = seq8.ordinary.take 23 ++ record .accessRefused (some 21) none :: []) ∧
      (seq8.loss = none ∧ lossFlying.notices.loss = some (record .noticesLost none (some inFlight5)) ∧
        (record .noticesLost none (some inFlight5)).flight.isSome = true ∧
        ({ seq8 with loss := some (record .noticesLost none none) } : NoticeQueue).loss =
          some (record .noticesLost none none)) := by decide +kernel

/-- A state in service with a transaction, a notice IN_FLIGHT and a step that answers next. -/
theorem witness_laws :
    PortConsistent (withTxn .guard pollRead live) ∧ NoClaimOutOfService (withPort .jammed live) ∧
      QueuesWithinCapacity (relaysHold 8) ∧ UrgentSlotsReserved (occupied 28) ∧ OneNoticeInFlight flying ∧
      SegmentInRange live ∧ PoolConsistent (hosting .guard .active) ∧ MonitorConsistent (withTxn .guard pollRead live) ∧
      step flying = .next { flying with time := { clock := 1000001#48, epoch := 5#48 } } := by
  unfold PortConsistent NoClaimOutOfService QueuesWithinCapacity UrgentSlotsReserved OneNoticeInFlight SegmentInRange
    SegmentEntry.inRange MonitorConsistent HealthFollowsTables ClaimsAreHeld DueListServes
  refine ⟨by decide +kernel, by decide +kernel, by decide +kernel, by decide +kernel, by decide +kernel,
    by decide +kernel, poolAgrees_sound _ test_pools_agree.2.1, by decide +kernel, rfl⟩

end Sys2Proof.Tests
end

section
/-! PROOF. The rules of the pool's operations: what a slot, a queue and the Upstream Queue hold after each of them
(R1, R5, R14, R17, R20). -/

namespace Sys2Proof.Machine

/-! ### Slots -/

/-- A request record that has entered REPLYING with an outcome at an instant (R1, R12). -/
def Slot.finished (status : Status) (detail : Byte) (data : List Word) (now : Stamp) (slot : Slot) : Slot :=
  { slot with
    state := .replying
    outcome := some { status := status, detail := detail, attempts := slot.attempts, stamp := now, data := data } }

/-- The Upstream Queue entry of a slot whose reply has no frame yet (R149). -/
def UpEntry.ofSlot (i : SlotIx) : UpEntry :=
  { item := .slot i, frame := none }

theorem putSlot_slots (i j : SlotIx) (x : Option Slot) (s : State) :
    (putSlot i x s).pool.slots[j] = if i = j then x else s.pool.slots[j] := by
  simp [putSlot, Vector.getElem_set, Fin.ext_iff]

@[simp] theorem putSlot_queues (i : SlotIx) (x : Option Slot) (s : State) :
    (putSlot i x s).pool.urgent = s.pool.urgent ∧ (putSlot i x s).pool.normal = s.pool.normal ∧
    (putSlot i x s).pool.bulk = s.pool.bulk ∧ (putSlot i x s).pool.credit = s.pool.credit := by
  and_intros <;> rfl

@[simp] theorem modifySlot_queues (i : SlotIx) (f : Slot → Slot) (s : State) :
    (modifySlot i f s).pool.urgent = s.pool.urgent ∧ (modifySlot i f s).pool.normal = s.pool.normal ∧
    (modifySlot i f s).pool.bulk = s.pool.bulk ∧ (modifySlot i f s).pool.credit = s.pool.credit := by
  and_intros <;> rfl

/-- An occupied slot changed is the slot written. -/
theorem modifySlot_of_some {i : SlotIx} {slot : Slot} {s : State} (f : Slot → Slot)
    (h : s.pool.slots[i] = some slot) : modifySlot i f s = putSlot i (some (f slot)) s := by
  rw [modifySlot, h, Option.map_some]

@[simp] theorem leaveQueues_queues (p : SlotIx → Bool) (s : State) :
    (leaveQueues p s).pool.slots = s.pool.slots ∧ (leaveQueues p s).pool.credit = s.pool.credit ∧
    (leaveQueues p s).pool.urgent = s.pool.urgent.filter (fun i => !p i) ∧
    (leaveQueues p s).pool.normal = s.pool.normal.filter (fun i => !p i) ∧
    (leaveQueues p s).pool.bulk = s.pool.bulk.filter (fun i => !p i) := by
  and_intros <;> rfl

/-! ### Entering REPLYING (R12, R14, R20) -/

/-- The cells after a slot has handed over its write completion, if it does (R14, R78). -/
def cellsAfter (slot : Slot) (status : Status) (detail : Byte) (s : State) : Vector Cell 64 :=
  if handsOver slot status detail then (writeCompletion slot.range s).calendar.cells else s.calendar.cells

@[simp] theorem completeSlot_of_none {i : SlotIx} {s : State} (status : Status) (detail : Byte) (data : List Word)
    (h : s.pool.slots[i] = none) : completeSlot i status detail data s = s := by
  unfold completeSlot
  rw [h]

/-- The whole effect of a slot's entry into REPLYING: its record, its reply entry, and the cells. -/
theorem completeSlot_of_some {i : SlotIx} {slot : Slot} {s : State} (status : Status) (detail : Byte)
    (data : List Word) (h : s.pool.slots[i] = some slot) :
    completeSlot i status detail data s =
      { s with
        pool :=
          { s.pool with
            slots := s.pool.slots.set i.val (some (slot.finished status detail data s.time.clock)) i.isLt }
        trunk := { s.trunk with upstream := s.trunk.upstream ++ [.ofSlot i] }
        calendar := { s.calendar with cells := cellsAfter slot status detail s } } := by
  unfold completeSlot cellsAfter
  rw [h]
  dsimp only
  split <;> rfl

theorem completeSlot_slots (i j : SlotIx) (status : Status) (detail : Byte) (data : List Word) (s : State) :
    (completeSlot i status detail data s).pool.slots[j] =
      if i = j then (s.pool.slots[j]).map (Slot.finished status detail data s.time.clock)
      else s.pool.slots[j] := by
  cases h : s.pool.slots[i] with
  | none =>
    rw [completeSlot_of_none _ _ _ h]
    split
    · next e => rw [← e, h]; rfl
    · rfl
  | some slot =>
    rw [completeSlot_of_some _ _ _ h]
    by_cases e : i = j
    · subst e; simp at h; simp [h]
    · have : i.val ≠ j.val := fun hv => e (Fin.ext hv)
      simp [e, this]

@[simp] theorem completeSlot_queues (i : SlotIx) (status : Status) (detail : Byte) (data : List Word) (s : State) :
    (completeSlot i status detail data s).pool.urgent = s.pool.urgent ∧
    (completeSlot i status detail data s).pool.normal = s.pool.normal ∧
    (completeSlot i status detail data s).pool.bulk = s.pool.bulk ∧
    (completeSlot i status detail data s).pool.credit = s.pool.credit ∧
    (completeSlot i status detail data s).calendar.dueList = s.calendar.dueList := by
  cases h : s.pool.slots[i] with
  | none => simp [completeSlot_of_none _ _ _ h]
  | some slot => simp [completeSlot_of_some _ _ _ h]

theorem completeSlot_trunk (i : SlotIx) (status : Status) (detail : Byte) (data : List Word) (s : State) :
    (completeSlot i status detail data s).trunk =
      { s.trunk with
        upstream := s.trunk.upstream ++ if (s.pool.slots[i]).isSome then [.ofSlot i] else [] } := by
  cases h : s.pool.slots[i] with
  | none => simp [completeSlot_of_none _ _ _ h]
  | some slot => simp [completeSlot_of_some _ _ _ h]

/-! ### Completing a list of slots with one status (R17) -/

/-- Each slot of a list completes with a status, in its order (R17). -/
def completeAll (status : Status) (l : List SlotIx) (s : State) : State :=
  l.foldl (fun s i => completeSlot i status 0#8 [] s) s

theorem flush_eq_completeAll (p : Slot → Bool) (status : Status) (s : State) :
    flush p status s =
      completeAll status (flushScope p s) (leaveQueues (fun i => (s.pool.slots[i]).all p) s) := rfl

@[simp] theorem completeAll_cons (status : Status) (i : SlotIx) (l : List SlotIx) (s : State) :
    completeAll status (i :: l) s = completeAll status l (completeSlot i status 0#8 [] s) := rfl

@[simp] theorem completeAll_queues (status : Status) (l : List SlotIx) (s : State) :
    (completeAll status l s).pool.urgent = s.pool.urgent ∧ (completeAll status l s).pool.normal = s.pool.normal ∧
    (completeAll status l s).pool.bulk = s.pool.bulk ∧ (completeAll status l s).pool.credit = s.pool.credit ∧
    (completeAll status l s).calendar.dueList = s.calendar.dueList := by
  induction l generalizing s with
  | nil => and_intros <;> rfl
  | cons i l ih => simp [ih]

/-- A slot of the list holds its outcome, however often it is listed; any other is unchanged. -/
theorem completeAll_slots (status : Status) (l : List SlotIx) (j : SlotIx) (s : State) :
    (completeAll status l s).pool.slots[j] =
      if j ∈ l then (s.pool.slots[j]).map (Slot.finished status 0#8 [] s.time.clock) else s.pool.slots[j] := by
  induction l generalizing s with
  | nil => simp [completeAll]
  | cons i l ih =>
    rw [completeAll_cons, ih, completeSlot_slots, (completeSlot_keeps i status 0#8 [] s).2.2.2.1]
    by_cases hi : i = j
    · subst hi
      cases s.pool.slots[i] <;> simp [Slot.finished]
    · have : j ≠ i := Ne.symm hi
      simp [hi, this]

/-- Every occupied slot of the list has its reply entry, in the list's order. -/
theorem completeAll_trunk (status : Status) (l : List SlotIx) (s : State) :
    (completeAll status l s).trunk =
      { s.trunk with
        upstream :=
          s.trunk.upstream ++ (l.filter (fun i => (s.pool.slots[i]).isSome)).map UpEntry.ofSlot } := by
  induction l generalizing s with
  | nil => simp [completeAll]
  | cons i l ih =>
    have hsome : ∀ j : SlotIx, ((completeSlot i status 0#8 [] s).pool.slots[j]).isSome = (s.pool.slots[j]).isSome := by
      intro j
      rw [completeSlot_slots]
      split <;> simp
    rw [completeAll_cons, ih, completeSlot_trunk]
    simp only [hsome]
    cases h : (s.pool.slots[i]).isSome <;> simp [h, -Fin.getElem_fin]

/-! ### Flushes (R17 to R19) -/

theorem flushScope_mem {p : Slot → Bool} {s : State} {i : SlotIx} :
    i ∈ flushScope p s ↔ i ∈ queueOrder s.pool ∧ (s.pool.slots[i]).any p = true := by
  simp [flushScope]

@[simp] theorem flush_queues (p : Slot → Bool) (status : Status) (s : State) :
    (flush p status s).pool.urgent = s.pool.urgent.filter (fun i => !(s.pool.slots[i]).all p) ∧
    (flush p status s).pool.normal = s.pool.normal.filter (fun i => !(s.pool.slots[i]).all p) ∧
    (flush p status s).pool.bulk = s.pool.bulk.filter (fun i => !(s.pool.slots[i]).all p) ∧
    (flush p status s).pool.credit = s.pool.credit ∧
    (flush p status s).calendar.dueList = s.calendar.dueList := by
  simp [flush_eq_completeAll]

theorem flush_slots (p : Slot → Bool) (status : Status) (j : SlotIx) (s : State) :
    (flush p status s).pool.slots[j] =
      if j ∈ flushScope p s then (s.pool.slots[j]).map (Slot.finished status 0#8 [] s.time.clock)
      else s.pool.slots[j] := by
  rw [flush_eq_completeAll, completeAll_slots]
  simp

theorem flush_trunk (p : Slot → Bool) (status : Status) (s : State) :
    (flush p status s).trunk =
      { s.trunk with upstream := s.trunk.upstream ++ (flushScope p s).map UpEntry.ofSlot } := by
  have h : (flushScope p s).filter (fun i => (s.pool.slots[i]).isSome) = flushScope p s := by
    rw [List.filter_eq_self]
    intro i hi
    obtain ⟨slot, hslot, -⟩ := (Option.any_eq_true _ _).1 (flushScope_mem.1 hi).2
    simp only [hslot, Option.isSome_some]
  rw [flush_eq_completeAll, completeAll_trunk]
  simp only [leaveQueues_queues, leaveQueues_keeps, h]

/-- A flush whose scope is every slot empties the class queues (R19). -/
theorem flush_all_queues (status : Status) (s : State) :
    (flush (fun _ => true) status s).pool.urgent = [] ∧ (flush (fun _ => true) status s).pool.normal = [] ∧
    (flush (fun _ => true) status s).pool.bulk = [] := by
  have h : ∀ x : Option Slot, x.all (fun _ => true) = true := fun x => by cases x <;> rfl
  simp [h]

/-! ### Admission (R3) -/

/-- The slot that admission takes is free. -/
theorem firstFree_free {s : State} {i : SlotIx} (h : firstFree s = some i) : s.pool.slots[i] = none := by
  simpa using List.find?_some h

theorem admitSlot_of_full {r : Slot} {s : State} (h : firstFree s = none) : admitSlot r s = s := by
  unfold admitSlot
  rw [h]

/-- The whole effect of admission: a free slot, the tail of one class queue, and one counter. -/
theorem admitSlot_of_free {r : Slot} {s : State} {i : SlotIx} (h : firstFree s = some i) :
    admitSlot r s =
      bump .requestsAdmitted
        { s with
          pool :=
            { s.pool with
              slots := s.pool.slots.set i.val (some r) i.isLt
              urgent := if r.cls = .urgent then s.pool.urgent ++ [i] else s.pool.urgent
              normal := if r.cls = .normal then s.pool.normal ++ [i] else s.pool.normal
              bulk := if r.cls = .bulk then s.pool.bulk ++ [i] else s.pool.bulk } } := by
  unfold admitSlot
  rw [h]
  dsimp only
  cases hc : r.cls <;> rfl

@[simp] theorem admitSlot_credit (r : Slot) (s : State) : (admitSlot r s).pool.credit = s.pool.credit := by
  cases h : firstFree s with
  | none => rw [admitSlot_of_full h]
  | some i => rw [admitSlot_of_free h]; rfl

/-! ### Slots counted -/

/-- A vector's elements in the order of their indices. -/
theorem toList_eq_map_finRange {α : Type} {n : Nat} (v : Vector α n) :
    v.toList = (List.finRange n).map (fun i => v[i]) := by
  apply List.ext_getElem <;> simp

/-- The slots that satisfy `p`, counted by their numbers. -/
theorem countP_slots (v : Vector (Option Slot) 32) (p : Option Slot → Bool) :
    v.toList.countP p = (List.finRange 32).countP (fun i => p v[i]) := by
  rw [toList_eq_map_finRange, List.countP_map]
  rfl

theorem freeSlots_add_occupied (s : State) : freeSlots s + s.pool.slots.toList.countP Option.isSome = 32 := by
  have hcount := List.length_eq_countP_add_countP (p := Option.isNone) (l := s.pool.slots.toList)
  have hsome : (fun x : Option Slot => decide ¬ x.isNone = true) = Option.isSome := by
    funext x
    cases x <;> rfl
  rw [hsome] at hcount
  exact hcount.symm.trans (Vector.length_toList ..)

end Sys2Proof.Machine
end

section
/-! PROOF. Updates that leave the request pool, the port and the claims alone: the relation `Quiet`, and the operations
that are in it. Each law of the machine that the pool's statements speak of is kept along it. -/

namespace Sys2Proof.Machine

/-- From `s` to `u` the request pool, the port, the engine's claimant, the held tags and the items of the Upstream Queue are
the same, no list of claims that was empty gains one, the SEGMENT entries stay in their ranges, and no bounded queue passes
its bound. -/
structure Quiet (s u : State) : Prop where
  pool : u.pool = s.pool
  port : u.engine.port = s.engine.port
  claimant : u.engine.txn.map Txn.claimant = s.engine.txn.map Txn.claimant
  isolate : u.engine.pendingIsolate = s.engine.pendingIsolate
  heldTag : u.config.session.heldTag = s.config.session.heldTag
  items : u.trunk.upstream.map UpEntry.item = s.trunk.upstream.map UpEntry.item
  due : s.calendar.dueList = [] → u.calendar.dueList = []
  probes : s.monitor.probeList = [] → u.monitor.probeList = []
  active : u.config.active.segment = s.config.active.segment
  shadow : s.config.active.segment.inRange → s.config.shadow.segment.inRange → u.config.shadow.segment.inRange
  down : s.trunk.downQueue.length ≤ 8 → u.trunk.downQueue.length ≤ 8
  up : s.trunk.upQueue.length ≤ 8 → u.trunk.upQueue.length ≤ 8
  ordinary : s.notices.ordinary.length ≤ 24 → u.notices.ordinary.length ≤ 24

namespace Quiet

theorem refl (s : State) : Quiet s s := by constructor <;> simp

theorem trans {s t u : State} (h : Quiet s t) (k : Quiet t u) : Quiet s u where
  pool := k.pool.trans h.pool
  port := k.port.trans h.port
  claimant := k.claimant.trans h.claimant
  isolate := k.isolate.trans h.isolate
  heldTag := k.heldTag.trans h.heldTag
  items := k.items.trans h.items
  due := k.due ∘ h.due
  probes := k.probes ∘ h.probes
  active := k.active.trans h.active
  shadow a b := k.shadow (h.active ▸ a) (h.shadow a b)
  down := k.down ∘ h.down
  up := k.up ∘ h.up
  ordinary := k.ordinary ∘ h.ordinary

/-- The Configuration Unit's banks and tag, the calendar and the Node Monitor apart, an update of other blocks is quiet if
it is quiet there. -/
theorem of_eq {s u : State} (hp : u.pool = s.pool) (he : u.engine = s.engine) (hc : u.config = s.config)
    (ht : u.trunk = s.trunk) (hn : u.notices = s.notices)
    (hd : s.calendar.dueList = [] → u.calendar.dueList = [])
    (hl : s.monitor.probeList = [] → u.monitor.probeList = []) : Quiet s u := by
  constructor <;> simp_all

/-! ### Blocks changed one at a time -/

theorem ofCalendar (s : State) (c : Calendar) (h : s.calendar.dueList = [] → c.dueList = []) :
    Quiet s { s with calendar := c } := of_eq rfl rfl rfl rfl rfl h id

theorem ofMonitor (s : State) (m : Monitor) (h : s.monitor.probeList = [] → m.probeList = []) :
    Quiet s { s with monitor := m } := of_eq rfl rfl rfl rfl rfl id h

theorem ofEngine (s : State) (e : Engine) (hp : e.port = s.engine.port)
    (hc : e.txn.map Txn.claimant = s.engine.txn.map Txn.claimant) (hi : e.pendingIsolate = s.engine.pendingIsolate) :
    Quiet s { s with engine := e } := by
  constructor <;> simp_all

theorem ofConfig (s : State) (c : ConfigUnit) (ht : c.session.heldTag = s.config.session.heldTag)
    (ha : c.active.segment = s.config.active.segment)
    (hs : s.config.active.segment.inRange → s.config.shadow.segment.inRange → c.shadow.segment.inRange) :
    Quiet s { s with config := c } := by
  constructor <;> simp_all

theorem ofNotices (s : State) (q : NoticeQueue) (h : s.notices.ordinary.length ≤ 24 → q.ordinary.length ≤ 24) :
    Quiet s { s with notices := q } := by
  constructor <;> simp_all

theorem ofTrunk (s : State) (t : Trunk) (hu : t.upstream.map UpEntry.item = s.trunk.upstream.map UpEntry.item)
    (hd : s.trunk.downQueue.length ≤ 8 → t.downQueue.length ≤ 8)
    (hq : s.trunk.upQueue.length ≤ 8 → t.upQueue.length ≤ 8) : Quiet s { s with trunk := t } := by
  constructor <;> simp_all

end Quiet

/-! ### Time, counters, indicators -/

theorem quiet_advance (us : Nat) (s : State) : Quiet s (advance us s) := by constructor <;> simp

theorem quiet_pending (q : List Instr) (s : State) : Quiet s { s with pending := q } := by constructor <;> simp

theorem quiet_addCount (c : Counter) (n : Nat) (s : State) : Quiet s (addCount c n s) := by constructor <;> simp

theorem quiet_bump (c : Counter) (s : State) : Quiet s (bump c s) := quiet_addCount c 1 s

theorem quiet_setLineIndicator (b : Bool) (s : State) : Quiet s (setLineIndicator b s) := by constructor <;> simp

theorem quiet_evalNodeIndicator (s : State) : Quiet s (evalNodeIndicator s) := by constructor <;> simp

theorem quiet_capture (b : Bool) (s : State) : Quiet s (capture b s) := by constructor <;> simp

theorem quiet_setEpoch (t : Arrival) (f : ManageFrame) (s : State) : Quiet s (setEpoch t f s) := by
  constructor <;> simp

/-! ### Notices (R157 to R166) -/

theorem modifyFirst_length {α : Type} (p : α → Bool) (f : α → α) (l : List α) :
    (modifyFirst p f l).length = l.length := by
  induction l with
  | nil => rfl
  | cons x l ih =>
    unfold modifyFirst
    split <;> simp [ih]

/-- One record's turn in the search for the UNSENT kind of lowest priority (R159). -/
def lowerUnsent (worst : Option NoticeKind) (r : NoticeRecord) : Option NoticeKind :=
  if r.flight.isSome then worst
  else
    match worst with
    | none => some r.kind
    | some k => if k.code < r.kind.code then some r.kind else worst

theorem bottomUnsentKind_eq (l : List NoticeRecord) : bottomUnsentKind l = l.foldl lowerUnsent none := rfl

theorem lowerUnsent_cases (worst : Option NoticeKind) (r : NoticeRecord) :
    lowerUnsent worst r = worst ∨ (lowerUnsent worst r = some r.kind ∧ r.unsentOf r.kind = true) := by
  unfold lowerUnsent NoticeRecord.unsentOf
  repeat' split
  all_goals simp_all

/-- The kind that the search ends with is its first candidate or an UNSENT record's. -/
theorem foldl_lowerUnsent {l : List NoticeRecord} {worst : Option NoticeKind} {k : NoticeKind}
    (h : l.foldl lowerUnsent worst = some k) : worst = some k ∨ ∃ r ∈ l, r.unsentOf k = true := by
  induction l generalizing worst with
  | nil => exact .inl h
  | cons r l ih =>
    rcases ih h with h' | ⟨r', hr', hu⟩
    · rcases lowerUnsent_cases worst r with e | ⟨e, hu⟩
      · exact .inl (e ▸ h')
      · obtain rfl : r.kind = k := Option.some.inj (e.symm.trans h')
        exact .inr ⟨r, List.mem_cons_self, hu⟩
    · exact .inr ⟨r', List.mem_cons_of_mem _ hr', hu⟩

/-- A list that holds an element of `p` loses exactly one at `dropLastThat`. -/
theorem dropLastThat_length {α : Type} {p : α → Bool} {l : List α} (h : ∃ x ∈ l, p x = true) :
    (dropLastThat p l).length + 1 = l.length := by
  obtain ⟨x, hx, hp⟩ := h
  have hlen := List.length_eraseP_of_mem (List.mem_reverse.2 hx) hp
  have hpos := List.length_pos_of_mem hx
  simp only [dropLastThat, List.length_reverse] at hlen ⊢
  omega

@[simp] theorem recordLoss_ordinary (kind : NoticeKind) (now : Stamp) (q : NoticeQueue) :
    (q.recordLoss kind now).ordinary = q.ordinary := by
  unfold NoticeQueue.recordLoss
  dsimp only
  repeat' split
  all_goals rfl

/-- A raise never leaves more than 24 ordinary records (R157 to R159). -/
theorem takeRaise_ordinary_length (kind : NoticeKind) (node : Option NodeAddr) (detail : Word) (now : Stamp)
    {q : NoticeQueue} (h : q.ordinary.length ≤ 24) : (q.takeRaise kind node detail now).ordinary.length ≤ 24 := by
  unfold NoticeQueue.takeRaise
  split
  · exact h
  · split
    · simpa [modifyFirst_length] using h
    · split
      · next hlt => simpa [Config.noticeCapacity] using hlt
      · split
        · simpa using h
        · next worst hw =>
          have hlowest := foldl_lowerUnsent ((bottomUnsentKind_eq _).symm.trans hw)
          have hdrop := dropLastThat_length (hlowest.resolve_left (by simp))
          split
          · simp
            omega
          · simpa using h

theorem quiet_raise (kind : NoticeKind) (node : Option NodeAddr) (detail : Word) (s : State) :
    Quiet s (raise kind node detail s) := by
  unfold raise
  split
  · exact .refl s
  · exact .ofNotices s _ (takeRaise_ordinary_length kind node detail _)

/-! ### Mirror and calendar (chapter 4) -/

theorem quiet_modifyCell (i : CellIx) (f : Cell → Cell) (s : State) : Quiet s (modifyCell i f s) :=
  .ofCalendar s _ id

theorem quiet_rebuildMirror (old : Tables) (s : State) : Quiet s (rebuildMirror old s) := .ofCalendar s _ id

theorem quiet_countCycle (s : State) : Quiet s (countCycle s) := .ofCalendar s _ id

theorem quiet_scheduleBoundary (s : State) : Quiet s (scheduleBoundary s) := .ofCalendar s _ id

theorem quiet_failCellsOf (a : NodeAddr) (s : State) : Quiet s (failCellsOf a s) :=
  .ofCalendar s _ fun h => by simp [h]

theorem quiet_pollOutcome (key : PollKey) (result : DropResult) (s : State) : Quiet s (pollOutcome key result s) := by
  unfold pollOutcome
  dsimp only
  split
  · exact quiet_bump _ s
  · split
    · exact quiet_bump _ s
    · split <;> exact (quiet_bump _ s).trans (quiet_modifyCell ..)

/-- What each step of a fold leaves quiet, the fold does. -/
theorem quiet_foldl {α : Type} {f : State → α → State} (h : ∀ s a, Quiet s (f s a)) (l : List α) (s : State) :
    Quiet s (l.foldl f s) := by
  induction l generalizing s with
  | nil => exact .refl s
  | cons a l ih => exact (h s a).trans (ih _)

theorem quiet_accountLeftovers (s : State) : Quiet s (accountLeftovers s) := by
  unfold accountLeftovers
  dsimp only
  have hfold := quiet_foldl
    (f := fun s (i : CellIx) =>
      bump .pollsMissed (modifyCell i (fun c => { c with missCount := min 255 (c.missCount + 1) }) s))
    (fun s i => (quiet_modifyCell i _ s).trans (quiet_bump _ _)) s.calendar.dueList s
  split
  · exact hfold.trans (.ofCalendar _ _ fun _ => rfl)
  · exact Quiet.trans (hfold.trans (.ofCalendar _ _ fun _ => rfl)) (quiet_raise ..)

theorem quiet_freshnessPast (i : CellIx) (s : State) : Quiet s (freshnessPast i s) := by
  unfold freshnessPast
  split
  · exact quiet_modifyCell ..
  · exact .refl s

/-! ### Node Monitor (chapter 3) -/

theorem quiet_modifyHealth (n : NodeIx) (f : Health → Health) (s : State) : Quiet s (modifyHealth n f s) :=
  .ofMonitor s _ id

theorem quiet_armProbe (n : NodeIx) (s : State) : Quiet s (armProbe n s) := quiet_modifyHealth ..

theorem quiet_unlistProbe (n : NodeIx) (s : State) : Quiet s (unlistProbe n s) :=
  (Quiet.ofMonitor s { s.monitor with probeList := s.monitor.probeList.filter (fun m => m != n) }
    (fun h => by simp [h])).trans (quiet_modifyHealth ..)

theorem quiet_dropProbe (n : NodeIx) (s : State) : Quiet s (dropProbe n s) := by
  unfold dropProbe
  dsimp only
  split
  · exact (quiet_modifyHealth ..).trans (quiet_armProbe ..)
  · exact quiet_modifyHealth ..

theorem quiet_emptyProbeList (s : State) : Quiet s (emptyProbeList s) :=
  (Quiet.ofMonitor s { s.monitor with probeList := [] } fun _ => rfl).trans
    (quiet_foldl (fun s n => quiet_dropProbe n s) _ _)

theorem quiet_applyAnswer (n : NodeIx) (latency : Word32) (s : State) : Quiet s (applyAnswer n latency s) := by
  unfold applyAnswer
  dsimp only
  split
  · exact .refl s
  · exact .refl s
  · exact (quiet_modifyHealth ..).trans
      ((quiet_unlistProbe ..).trans ((quiet_raise ..).trans (quiet_evalNodeIndicator _)))
  · exact quiet_modifyHealth ..

/-! ### The line (R25, R31 to R33) -/

theorem quiet_touchLine (s : State) : Quiet s (touchLine s) := .ofEngine s _ rfl rfl rfl

theorem quiet_storeChar (ch : LineChar) (s : State) : Quiet s (storeChar ch s) := .ofEngine s _ rfl rfl rfl

theorem quiet_stopCollecting (d : DiscardDetail) (s : State) : Quiet s (stopCollecting d s) :=
  .ofEngine s _ rfl rfl rfl

theorem quiet_releaseLine (s : State) : Quiet s (releaseLine s) := .ofEngine s _ rfl rfl rfl

theorem quiet_takeStray (s : State) : Quiet s (takeStray s) := (quiet_bump _ s).trans (quiet_touchLine _)

/-! ### Trunk Interface (chapter 8) -/

theorem quiet_startA (c : UpClaimant) (bytes : List Byte) (s : State) : Quiet s (startA c bytes s) :=
  .ofTrunk s _ rfl id id

theorem launchFirst_ordinary_length (s : State) :
    (launchFirst s).ordinary.length = s.notices.ordinary.length := by
  unfold launchFirst
  dsimp only
  repeat' split
  all_goals simp [modifyFirst_length]

/-- A grant of the A-transmit arbiter builds a frame and launches a notice, and removes no entry (R151). -/
theorem quiet_grantOf {c : UpClaimant} {s t : State} (h : grantOf c s = some t) : Quiet s t := by
  cases c with
  | upRelay =>
    replace h : grantRelay s = some t := h
    unfold grantRelay at h
    split at h
    · cases h
    · exact Option.some.inj h ▸ quiet_startA ..
  | upstream =>
    replace h : grantUpstream s = some t := h
    unfold grantUpstream at h
    split at h
    · cases h
    · next e rest he =>
      refine Option.some.inj h ▸ Quiet.trans ?_ (quiet_startA ..)
      exact .ofTrunk s _ (by simp [he]) id id
  | notice =>
    replace h : grantNotice s = some t := h
    unfold grantNotice at h
    split at h
    · refine Option.some.inj h ▸ Quiet.trans ?_ (quiet_startA ..)
      refine .ofNotices s _ fun hl => ?_
      dsimp only
      split
      · exact hl
      · exact (launchFirst_ordinary_length s).trans_le hl
    · cases h

theorem quiet_grantCyclic (s : State) : Quiet s (grantCyclic s) := by
  rcases grantCyclic_cases s with h | ⟨c, h⟩
  · rw [h]; exact .refl s
  · exact quiet_grantOf h

theorem quiet_startB (s : State) : Quiet s (startB s) := by
  unfold startB
  split
  · next f rest _ _ hq =>
    refine .ofTrunk s _ rfl (fun h => ?_) id
    rw [hq, List.length_cons] at h
    exact Nat.le_of_succ_le h
  · exact .refl s

theorem quiet_relayDown (bytes : List Byte) (arrival : Stamp) (s : State) : Quiet s (relayDown bytes arrival s) := by
  unfold relayDown
  split
  · split
    · next hlt =>
      refine Quiet.trans ?_ (quiet_startB _)
      exact .ofTrunk s _ rfl (fun _ => by simpa [Config.relayCapacity] using hlt) id
    · exact (quiet_bump ..).trans (quiet_raise ..)
  · exact quiet_bump ..

theorem quiet_relayUp (bytes : List Byte) (s : State) : Quiet s (relayUp bytes s) := by
  unfold relayUp
  split
  · next hlt =>
    refine .ofTrunk s _ rfl id fun _ => ?_
    simpa [Config.relayCapacity] using hlt
  · exact (quiet_bump ..).trans (quiet_raise ..)

theorem quiet_linkADown (s : State) : Quiet s (linkADown s) := by
  unfold linkADown
  split
  · exact (Quiet.ofTrunk s { s.trunk with aUp := false, aTx := none } rfl id id).trans
      (.ofNotices _ { s.notices with resend := none, resendDue := false } id)
  · exact .refl s

theorem quiet_linkBUp (s : State) : Quiet s (linkBUp s) := by
  unfold linkBUp
  split
  · exact .refl s
  · exact (Quiet.ofTrunk s { s.trunk with bUp := true } rfl id id).trans (quiet_startB _)

theorem quiet_linkBDown (s : State) : Quiet s (linkBDown s) := by
  unfold linkBDown
  split
  · exact (Quiet.ofTrunk s { s.trunk with bUp := false, downQueue := [], bTx := none } rfl (by simp) id).trans
      (quiet_addCount ..)
  · exact .refl s

theorem quiet_transmissionBEnds (s : State) : Quiet s (transmissionBEnds s) := by
  unfold transmissionBEnds
  split
  · exact (Quiet.ofTrunk s { s.trunk with bTx := none } rfl id id).trans
      ((quiet_bump ..).trans (quiet_startB _))
  · exact .refl s

theorem quiet_noticeSent (s : State) : Quiet s (noticeSent s) := by
  unfold noticeSent
  split
  · exact .refl s
  · refine (quiet_bump _ s).trans (.ofNotices _ _ fun h => ?_)
    simpa [NoticeQueue.markSent, modifyFirst_length] using h

/-! ### Sessions (chapter 6) -/

/-- A session that holds no tag is replaced by one that holds none, and SHADOW stays in its ranges. -/
theorem quiet_edit (s : State) (c : ConfigUnit) (h : s.config.session.heldTag = none) (hc : c.session.heldTag = none)
    (ha : c.active = s.config.active)
    (hs : s.config.active.segment.inRange → s.config.shadow.segment.inRange → c.shadow.segment.inRange) :
    Quiet s { s with config := c } := .ofConfig s c (hc.trans h.symm) (by rw [ha]) hs

theorem quiet_startSessionTimer (id : Byte) {s : State} (h : s.config.session.heldTag = none) :
    Quiet s (startSessionTimer id s) := quiet_edit s _ h rfl rfl fun _ hs => hs

theorem quiet_closeSession {s : State} (h : s.config.session.heldTag = none) : Quiet s (closeSession s) :=
  quiet_edit s _ h rfl rfl fun ha _ => ha

end Sys2Proof.Machine
end

section
/-! PROOF. What a law needs to be kept by every step. `StepLaws P` names the operations that reach what the pool's laws speak
of, and `StepLaws.step` derives from it that every step keeps `P`: the commands and their owners are gone through once. -/

namespace Sys2Proof.Machine

/-! ### Places of the immediate part (R90) -/

/-- The entries of the immediate part are counted by their items. -/
theorem countP_isImmediate_congr {k l : List UpEntry} (h : k.map UpEntry.item = l.map UpEntry.item) :
    k.countP UpEntry.isImmediate = l.countP UpEntry.isImmediate := by
  have hitem : ∀ m : List UpEntry, m.countP UpEntry.isImmediate =
      (m.map UpEntry.item).countP (fun x => UpEntry.isImmediate { item := x, frame := none }) := by
    intro m
    rw [List.countP_map]
    rfl
  rw [hitem, hitem, h]

theorem placesTaken_congr {s u : State} (hi : u.trunk.upstream.map UpEntry.item = s.trunk.upstream.map UpEntry.item)
    (ht : u.config.session.heldTag = s.config.session.heldTag)
    (he : u.engine.pendingIsolate = s.engine.pendingIsolate) : placesTaken u = placesTaken s := by
  simp only [placesTaken, reservations, countP_isImmediate_congr hi, ht, he]

theorem Quiet.placesTaken {s u : State} (h : Quiet s u) : placesTaken u = placesTaken s :=
  placesTaken_congr h.items h.heldTag h.isolate

theorem placesFull_congr {s u : State} (h : placesTaken u = placesTaken s) : placesFull u = placesFull s := by
  simp only [placesFull, h]

theorem Quiet.placesFull {s u : State} (h : Quiet s u) : placesFull u = placesFull s :=
  placesFull_congr h.placesTaken

/-- A tag's holders are read from what a quiet update leaves alone (R4). -/
theorem Quiet.tagInUse {s u : State} (h : Quiet s u) (tag : Tag) : tagInUse u tag = tagInUse s tag := by
  simp only [Machine.tagInUse, slotOfTag, h.pool, h.heldTag, h.isolate]

/-- Entries of slots take no place of the immediate part. -/
theorem placesTaken_completeSlot (i : SlotIx) (status : Status) (detail : Byte) (data : List Word) (s : State) :
    placesTaken (completeSlot i status detail data s) = placesTaken s := by
  simp only [placesTaken, reservations, completeSlot_trunk, completeSlot_keeps]
  split <;> simp [UpEntry.ofSlot, UpEntry.isImmediate]

theorem placesTaken_flush (p : Slot → Bool) (status : Status) (s : State) :
    placesTaken (flush p status s) = placesTaken s := by
  have h : ∀ l : List SlotIx, (l.map UpEntry.ofSlot).countP UpEntry.isImmediate = 0 := by
    intro l
    simp [List.countP_eq_zero, UpEntry.ofSlot, UpEntry.isImmediate]
  simp [placesTaken, reservations, flush_trunk, h]

theorem placesTaken_placeReply (r : Reply) (s : State) : placesTaken (placeReply r s) = placesTaken s + 1 := by
  simp [placesTaken, reservations, placeReply, enqueueUp, UpEntry.isImmediate]
  omega

/-- The reply of a cancelled isolate takes its reserved place (R46). -/
theorem placesTaken_cancelIsolate {tag : Tag} {s : State} (h : s.engine.pendingIsolate = some tag) :
    placesTaken (cancelIsolate tag s) = placesTaken s := by
  rw [cancelIsolate, deferredReply, answer, placesTaken_placeReply]
  simp [placesTaken, reservations, h, Nat.add_assoc]

/-- The reply of a withdrawn COMMIT takes its reserved place (R125). -/
theorem placesTaken_withdrawCommit {id : Byte} {tag : Tag} {s : State}
    (h : s.config.session = .commitPending id tag) : placesTaken (withdrawCommit id tag s) = placesTaken s := by
  simp [placesTaken, reservations, withdrawCommit, startSessionTimer, deferredReply, answer, placeReply, enqueueUp, h,
    UpEntry.isImmediate, Session.heldTag]
  omega

/-! ### The reserved places through a grant -/

@[simp] theorem countAttempt_pendingIsolate (t : Txn) (s : State) :
    (countAttempt t s).engine.pendingIsolate = s.engine.pendingIsolate := by
  unfold countAttempt
  split <;> simp

@[simp] theorem beginAttempt_pendingIsolate (t : Txn) (s : State) :
    (beginAttempt t s).engine.pendingIsolate = s.engine.pendingIsolate := by
  unfold beginAttempt
  dsimp only
  split <;> simp

@[simp] theorem enterGuard_pendingIsolate (t : Txn) (s : State) :
    (enterGuard t s).engine.pendingIsolate = s.engine.pendingIsolate := by
  unfold enterGuard
  split
  · exact beginAttempt_pendingIsolate ..
  · rfl

@[simp] theorem grantHost_pendingIsolate (i : SlotIx) (s : State) :
    (grantHost i s).engine.pendingIsolate = s.engine.pendingIsolate := by
  unfold grantHost
  split <;> simp

@[simp] theorem decideDrop_pendingIsolate (s : State) :
    (decideDrop s).engine.pendingIsolate = s.engine.pendingIsolate := by
  unfold decideDrop
  split
  · split
    · rfl
    · unfold takeGrant
      split <;> simp [grantPoll, grantProbe]
  · rfl

/-- A grant decision places no immediate reply and reserves none. -/
theorem placesTaken_decideDrop (s : State) : placesTaken (decideDrop s) = placesTaken s :=
  placesTaken_congr (by simp) (by simp) (by simp)

/-! ### The SEGMENT entry of SHADOW (R110 to R112, R116) -/

/-- One check of an entry image is passed together with those after it (R111). -/
theorem fault_ite_eq_none {c : Prop} [Decidable c] {n : Nat} {rest : Option Nat} :
    (if c then some n else rest) = none ↔ ¬ c ∧ rest = none := by
  split <;> simp [*]

/-- A SEGMENT image that no check refuses holds an entry in the ranges (R110, R111). -/
theorem segmentOfImage_inRange {img : List Byte} (h : segmentFault img = none) : (segmentOfImage img).inRange := by
  simp only [segmentFault, outside, fault_ite_eq_none, Bool.or_eq_true, decide_eq_true_eq, not_or, not_lt] at h
  obtain ⟨h1, h2, h3, h4, h5, h6, -⟩ := h
  exact ⟨h1, h2, h3, h4, h5, h6⟩

/-- What an ENTRY_WRITE makes of SHADOW keeps its SEGMENT entry in the ranges (R111, R112, R116). -/
theorem writtenShadow_inRange {f : ManageFrame} {b c : Tables} (h : writtenShadow f b = .ok c)
    (hb : b.segment.inRange) : c.segment.inRange := by
  unfold writtenShadow at h
  split at h
  · cases h
  · next r _ =>
    split at h
    · obtain rfl := Except.ok.inj h
      cases r with
      | access i => exact hb
      | poll i => exact hb
      | node i => exact hb
      | segment => simp [Tables.clearEntry, Tables.cleared, SegmentEntry.inRange]
    · split at h
      · cases h
      · next hf =>
        obtain rfl := Except.ok.inj h
        cases r with
        | access i => exact hb
        | poll i => exact hb
        | node i => exact hb
        | segment => exact segmentOfImage_inRange hf

/-! ### The laws -/

/-- The port has a transaction under way: GUARD, SENDING, AWAITING or RECEIVING (R26). -/
def PortState.transacting (port : PortState) : Bool :=
  match port with
  | .idle => false
  | .jammed => false
  | .isolated => false
  | _ => true

/-- An update of a record that the pool's laws do not read: attempts and sent-once alone (R1). -/
def SlotTouch (f : Slot → Slot) : Prop :=
  ∀ slot, (f slot).tag = slot.tag ∧ (f slot).cls = slot.cls ∧ (f slot).state = slot.state ∧
    (f slot).outcome = slot.outcome

/-- A record as admission gives it: QUEUED, not attempted, not sent, without an outcome (R1). -/
def Slot.isFresh (r : Slot) : Prop :=
  r.state = .queued ∧ r.attempts = 0 ∧ r.sentOnce = false ∧ r.outcome = none

/-- The operations of an attempt: quiet updates, a port under way with the same claimant, and a touch of the granted slot. -/
structure AttemptLaws (P : State → Prop) : Prop where
  of_quiet : ∀ {s u}, Quiet s u → P s → P u
  of_transacting : ∀ (e : Engine) s, e.port.transacting = true →
    e.txn.map Txn.claimant = s.engine.txn.map Txn.claimant → e.pendingIsolate = s.engine.pendingIsolate → P s →
    P { s with engine := e }
  of_touchSlot : ∀ i f s, SlotTouch f → s.engine.txn.map Txn.claimant = some (.host i) → P s → P (modifySlot i f s)

/-- The operations that a law of the pool, the port and the claims has to be kept by, each with what its callers know. -/
structure StepLaws (P : State → Prop) : Prop extends AttemptLaws P where
  at_begin : ∀ source s, P (beginReset source s)
  at_release : ∀ straps s, P (releaseReset straps s)
  of_softReset : ∀ s, P s → P (softReset s)
  of_placeReply : ∀ r s, placesFull s = false → P s → P (placeReply r s)
  of_decideDrop : ∀ s, P s → P (decideDrop s)
  of_discardHeads : ∀ s, P s → P (discardBroadcastHeads s.trunk.upstream s)
  of_upstreamSent : ∀ s, P s → P (upstreamSent s)
  of_admit : ∀ r s, r.isFresh → tagInUse s r.tag = false → portRefusal s = none → hasRoom s r.cls = true →
    P s → P (admitSlot r s)
  of_abortQueued : ∀ (i : SlotIx) slot s, s.pool.slots[i] = some slot → slot.state = .queued → P s →
    P (completeSlot i .aborted 0#8 [] (leaveQueues (fun j => j == i) s))
  of_abortActive : ∀ (i : SlotIx) slot s, s.pool.slots[i] = some slot → slot.state = .active → P s →
    P (modifySlot i (fun slot => { slot with state := .abortPending }) s)
  of_withdraw : ∀ id tag s, s.config.session = .commitPending id tag → P s → P (withdrawCommit id tag s)
  of_pend : ∀ id tag s, placesFull s = false → tagInUse s tag = false → s.config.session.heldTag = none → P s →
    P { s with config := { s.config with session := .commitPending id tag } }
  of_apply : ∀ id tag s, s.config.session = .commitPending id tag → P s → P (applyCommit tag s)
  of_flush : ∀ p status s, P s → P (flush p status s)
  of_listProbe : ∀ n s, s.engine.port ≠ .jammed → s.engine.port ≠ .isolated → P s → P (listProbe n s)
  of_formDue : ∀ s, P s → P (formDue s)
  of_dropIsolate : ∀ f s, placesFull s = false → tagInUse s (tagOf f.tag) = false → P s → P (ownDropIsolate f s)
  of_cancelIsolate : ∀ tag s, s.engine.pendingIsolate = some tag → P s → P (cancelIsolate tag s)
  of_leaveOut : ∀ (e : Engine) s, s.engine.port = .jammed ∨ s.engine.port = .isolated → e.port = .idle →
    e.txn = s.engine.txn → e.pendingIsolate = s.engine.pendingIsolate → P s → P { s with engine := e }
  of_deliver : ∀ t result s, s.engine.txn = some t → P s → P (deliver t result s)
  of_jam : ∀ s, s.engine.port = .guard → P s → P (enterJammed s)
  of_leaveTail : ∀ s, s.engine.port = .sending → s.engine.txn = none → P s → P (leaveTail s)

namespace AttemptLaws

variable {P : State → Prop} (L : AttemptLaws P)
include L

/-- An attempt of the engine's transaction is counted in its slot or in the transaction (R26). -/
theorem keeps_countAttempt {t : Txn} {s : State} (ht : s.engine.txn = some t) (h : P s) : P (countAttempt t s) := by
  unfold countAttempt
  split
  · next i hi => exact L.of_touchSlot i _ s (fun _ => ⟨rfl, rfl, rfl, rfl⟩) (by simp [ht, hi]) h
  · exact L.of_quiet (.ofEngine s _ rfl (by simp [ht]) rfl) h
  · exact L.of_quiet (.ofEngine s _ rfl (by simp [ht]) rfl) h

theorem keeps_beginAttempt {t : Txn} {s : State} (ht : s.engine.txn = some t) (h : P s) : P (beginAttempt t s) := by
  have hc := L.keeps_countAttempt ht h
  unfold beginAttempt
  dsimp only
  split
  · exact L.of_transacting _ _ rfl rfl rfl (L.of_quiet (quiet_bump ..) hc)
  · exact L.of_transacting _ _ rfl rfl rfl hc

/-- A law that holds once the engine has entered GUARD holds where it has gone on to SENDING (R27). -/
theorem keeps_enterGuard_of_entered {t : Txn} {s : State} (hg : P (guardEntered t s)) : P (enterGuard t s) := by
  unfold enterGuard
  split
  · exact L.keeps_beginAttempt rfl hg
  · exact hg

end AttemptLaws

namespace StepLaws

variable {P : State → Prop} (L : StepLaws P)
include L

/-! ### Decisions and attempts -/

theorem keeps_decideA {s : State} (h : P s) : P (decideA s) := by
  unfold decideA
  split
  · exact L.of_quiet (quiet_grantCyclic _) (L.of_discardHeads s h)
  · exact h

theorem keeps_settle {s : State} (h : P s) : P (settle s) := L.keeps_decideA (L.of_decideDrop s h)

theorem keeps_enterGuard {t : Txn} {s : State} (ht : s.engine.txn.map Txn.claimant = some t.claimant) (h : P s) :
    P (enterGuard t s) :=
  L.keeps_enterGuard_of_entered (L.of_transacting _ s rfl ht.symm rfl h)

theorem keeps_markSent {t : Txn} {s : State} (ht : s.engine.txn.map Txn.claimant = some t.claimant) (h : P s) :
    P (markSent t s) := by
  unfold markSent
  split
  · next i hi => exact L.of_touchSlot i _ s (fun _ => ⟨rfl, rfl, rfl, rfl⟩) (by rw [ht, hi]) h
  · exact h
  · exact h

theorem keeps_decideRetry {t : Txn} {s : State} (result : DropResult) (ht : s.engine.txn = some t) (h : P s) :
    P (decideRetry t result s) := by
  unfold decideRetry
  split
  · exact L.keeps_enterGuard (by simp [ht]) (L.of_quiet (quiet_bump ..) h)
  · exact L.of_deliver t result s ht h

theorem keeps_endCorrupt {t : Txn} {s : State} (d : CorruptDetail) (ht : s.engine.txn = some t) (h : P s) :
    P (endCorrupt t d s) :=
  L.keeps_decideRetry _ ht (L.of_quiet (quiet_bump ..) h)

theorem keeps_endResponse {t : Txn} {s : State} (result : DropResult) (ht : s.engine.txn = some t) (h : P s) :
    P (endResponse t result s) := by
  unfold endResponse
  split
  · exact L.keeps_endCorrupt _ ht h
  · exact L.of_deliver t _ s ht h

/-! ### Characters (R25 to R33) -/

theorem keeps_takeFirst (ch : LineChar) {s : State} (h : P s) : P (takeFirst ch s) := by
  have hs : P (storeChar ch
      { s with
        engine := { s.engine with port := .receiving, deadline := none, firstChar := some s.time.clock } }) :=
    L.of_quiet (quiet_storeChar ..) (L.of_transacting _ s rfl rfl rfl h)
  unfold takeFirst
  dsimp only
  split
  · exact L.of_quiet (quiet_stopCollecting ..) hs
  · exact hs

theorem keeps_takeNext {t : Txn} (ch : LineChar) {s : State} (ht : s.engine.txn = some t) (h : P s) :
    P (takeNext t ch s) := by
  have hs : P (storeChar ch s) := L.of_quiet (quiet_storeChar ..) h
  unfold takeNext
  split
  · exact L.of_quiet (quiet_touchLine _) h
  · dsimp only
    split
    · exact L.of_quiet (quiet_stopCollecting ..) hs
    · split
      · exact hs
      · split
        · exact L.of_quiet (quiet_stopCollecting ..) hs
        · split
          · exact hs
          · exact L.keeps_endResponse _ ht hs

theorem keeps_takeCharacter (ch : LineChar) {s : State} (h : P s) : P (takeCharacter ch s) := by
  unfold takeCharacter
  split
  · exact L.of_quiet (quiet_takeStray s) h
  · exact L.of_quiet (quiet_takeStray s) h
  · exact L.of_quiet (quiet_takeStray s) h
  · exact h
  · exact h
  · exact L.keeps_takeFirst ch h
  · split
    · exact h
    · next t ht => exact L.keeps_takeNext ch ht h

/-! ### Events of the drop line -/

theorem keeps_guardSilence {s : State} (h : P s) : P (guardSilence s) := by
  unfold guardSilence
  split
  · next t _ ht =>
    split
    · exact L.keeps_beginAttempt ht h
    · exact h
  · exact h

theorem keeps_busyInGuard {s : State} (h : P s) : P (busyInGuard s) := by
  unfold busyInGuard
  split
  · next hp => exact L.keeps_settle (L.of_jam s hp.1 h)
  · exact h

theorem keeps_requestSent {t : Txn} {s : State} (ht : s.engine.txn = some t) (h : P s) : P (requestSent t s) := by
  have hm : P (markSent t { releaseLine s with
      engine := { (releaseLine s).engine with endOfRequest := some s.time.clock } }) :=
    L.keeps_markSent (by simp [releaseLine, ht])
      (L.of_quiet (.ofEngine _ _ rfl rfl rfl) (L.of_quiet (quiet_releaseLine s) h))
  unfold requestSent
  dsimp only
  split
  · exact L.keeps_settle (L.of_deliver t _ _ (by simpa [releaseLine] using ht) hm)
  · exact L.of_transacting _ _ rfl rfl rfl hm

theorem keeps_frameSent {s : State} (h : P s) : P (frameSent s) := by
  unfold frameSent
  split
  · next t _ ht =>
    split
    · exact L.keeps_requestSent ht h
    · exact h
  · exact h

theorem keeps_characterEnds (ch : LineChar) {s : State} (h : P s) : P (characterEnds ch s) := by
  unfold characterEnds
  split
  · exact L.keeps_settle (L.keeps_takeCharacter ch h)
  · exact L.keeps_takeCharacter ch h

theorem keeps_deadlineReached {s : State} (h : P s) : P (deadlineReached s) := by
  unfold deadlineReached
  split
  · next t _ ht =>
    split
    · exact L.keeps_settle (L.keeps_decideRetry _ ht (L.of_quiet (quiet_bump ..) h))
    · exact h
  · exact h

theorem keeps_truncated {s : State} (h : P s) : P (truncated s) := by
  unfold truncated
  split
  · next t _ ht _ =>
    split
    · exact L.keeps_settle (L.keeps_endCorrupt _ ht h)
    · exact h
  · exact h

theorem keeps_endDiscard (due : State → Bool) {s : State} (h : P s) : P (endDiscard due s) := by
  unfold endDiscard
  split
  · next t d _ ht _ =>
    split
    · exact L.keeps_settle (L.keeps_endCorrupt _ ht h)
    · exact h
  · exact h

theorem keeps_jamSilence {s : State} (h : P s) : P (jamSilence s) := by
  unfold jamSilence
  split
  · next hp =>
    refine L.keeps_settle (L.of_quiet (quiet_raise ..) (L.of_quiet (quiet_setLineIndicator ..) ?_))
    exact L.of_leaveOut _ s (.inl hp.1) rfl rfl rfl h
  · exact h

theorem keeps_tailEnd {s : State} (h : P s) : P (tailEnd s) := by
  unfold tailEnd
  split
  · next hp => exact L.keeps_settle (L.of_leaveTail s hp.1 hp.2.1 h)
  · exact h

/-! ### Events of the timers and the trunk's links -/

theorem keeps_applyPending {s : State} (h : P s) : P (applyPending s) := by
  unfold applyPending
  split
  · next id tag hs => exact L.of_apply id tag s hs h
  · exact h

theorem keeps_boundaryReached {s : State} (h : P s) : P (boundaryReached s) := by
  unfold boundaryReached
  split
  · refine L.keeps_settle (L.of_formDue _ (L.of_quiet (quiet_scheduleBoundary _) (L.keeps_applyPending ?_)))
    exact L.of_quiet ((quiet_accountLeftovers s).trans (quiet_countCycle _)) h
  · exact h

theorem keeps_probeDueReached (n : NodeIx) {s : State} (h : P s) : P (probeDueReached n s) := by
  unfold probeDueReached
  split
  · split
    · exact L.of_quiet (quiet_armProbe ..) h
    · exact L.of_quiet (quiet_armProbe ..) h
    · next hj hi => exact L.keeps_settle (L.of_listProbe n s hj hi h)
  · exact h

theorem keeps_sessionExpiry {s : State} (h : P s) : P (sessionExpiry s) := by
  unfold sessionExpiry
  split
  · next id expiry hs =>
    split
    · refine L.keeps_decideA (L.of_quiet (quiet_raise ..) (L.of_quiet (quiet_closeSession ?_) h))
      rw [hs]; rfl
    · exact h
  · exact h

theorem keeps_resendExpiry {s : State} (h : P s) : P (resendExpiry s) := by
  unfold resendExpiry
  split
  · exact L.keeps_decideA (L.of_quiet (.ofNotices s _ id) h)
  · exact h

theorem keeps_linkAUp {s : State} (h : P s) : P (linkAUp s) := by
  unfold linkAUp
  split
  · exact h
  · refine L.keeps_decideA (L.of_quiet ?_ h)
    exact (Quiet.ofTrunk s { s.trunk with aUp := true } rfl id id).trans
      (.ofNotices _ { s.notices with resendDue := s.notices.inFlight.isSome } id)

theorem keeps_transmissionAEnds {s : State} (h : P s) : P (transmissionAEnds s) := by
  unfold transmissionAEnds
  split
  · exact h
  · next tx _ =>
    refine L.keeps_decideA ?_
    have h0 : P { s with trunk := { s.trunk with aTx := none } } :=
      L.of_quiet (.ofTrunk s _ rfl id id) h
    unfold completeA
    split
    · refine L.of_quiet (Quiet.trans ?_ (quiet_bump ..)) h0
      exact .ofTrunk _ _ rfl id fun hl => by simp at hl ⊢; omega
    · split
      · exact L.of_upstreamSent _ h0
      · exact h0
    · split
      · exact L.of_quiet (quiet_noticeSent _) h0
      · exact h0

theorem keeps_takeB (f : RawFrame) {s : State} (h : P s) : P (takeB f s) := by
  unfold takeB
  split
  · exact h
  · split
    · exact L.of_quiet (quiet_bump ..) h
    · split
      · exact L.keeps_decideA (L.of_quiet ((quiet_bump ..).trans (quiet_relayUp ..)) h)
      · exact L.of_quiet (quiet_bump ..) h

/-! ### Replies and refusals -/

theorem keeps_answer {tag node : Byte} {status : Status} {detail : Byte} {body : List Piece} {s : State}
    (hr : placesFull s = false) (h : P s) : P (answer tag node status detail body s) :=
  L.of_placeReply _ s hr h

theorem keeps_reply {f : ManageFrame} {status : Status} {detail : Byte} {body : List Piece} {s : State}
    (hr : placesFull s = false) (h : P s) : P (reply f status detail body s) :=
  L.of_placeReply _ s hr h

/-- A reply to a frame after a quiet update of the state in which it was checked. -/
theorem keeps_reply_of_quiet {f : ManageFrame} {status : Status} {detail : Byte} {body : List Piece} {s u : State}
    (q : Quiet s u) (hr : placesFull s = false) (h : P s) : P (reply f status detail body u) :=
  L.keeps_reply (q.placesFull.trans hr) (L.of_quiet q h)

theorem keeps_refuse {tag node : Byte} {status : Status} {detail : Byte} {effect : State → State} {s : State}
    (he : ∀ u, Quiet u (effect u)) (h : P s) : P (refuse tag node status detail effect s) := by
  unfold refuse
  split
  · exact L.of_quiet (quiet_bump ..) h
  · next hr => exact L.of_quiet (he _) (L.keeps_answer (Bool.eq_false_iff.2 hr) h)

/-! ### READ and WRITE (R91, R106) -/

omit L in
/-- Admission is reached only past the port check and the room check (R100, R101). -/
theorem lineRefusal_eq_none {s : State} {a : NodeAddr} {cls : Class} (h : lineRefusal s a cls = none) :
    portRefusal s = none ∧ hasRoom s cls = true := by
  unfold lineRefusal at h
  split at h
  · cases h
  · cases h
  · next hp _ =>
    split at h
    · next hr => exact ⟨hp, hr⟩
    · cases h

theorem keeps_admitOrRefuse (op : Op) (f : RequestFrame) (cls : Class) {s : State}
    (ht : tagInUse s (tagOf f.tag) = false) (h : P s) : P (admitOrRefuse op f cls s) := by
  unfold admitOrRefuse
  split
  · exact L.keeps_refuse .refl h
  · split
    · exact L.keeps_refuse .refl h
    · next hl =>
      obtain ⟨hp, hr⟩ := lineRefusal_eq_none hl
      exact L.of_decideDrop _ (L.of_admit _ s ⟨rfl, rfl, rfl, rfl⟩ ht hp hr h)

theorem keeps_intakeRequest (op : Op) (f : RequestFrame) {s : State} (h : P s) : P (intakeRequest op f s) := by
  unfold intakeRequest
  refine L.keeps_decideA ?_
  split
  · exact L.keeps_refuse .refl h
  · split
    · exact L.keeps_refuse .refl h
    · next ht =>
      split
      · exact L.keeps_refuse (fun u => quiet_raise ..) h
      · split
        · split
          · exact L.of_quiet (quiet_bump ..) h
          · next hr => exact L.of_quiet (quiet_bump ..) (L.of_placeReply _ s (Bool.eq_false_iff.2 hr) h)
        · exact L.keeps_admitOrRefuse op f _ (Bool.eq_false_iff.2 ht) h

theorem keeps_intakeBroadcastWrite (f : RequestFrame) {s : State} (h : P s) : P (intakeBroadcastWrite f s) := by
  have hd : P (discardFrame s) := L.of_quiet (quiet_bump ..) h
  unfold intakeBroadcastWrite
  refine L.keeps_decideA ?_
  split
  · exact hd
  · split
    · exact hd
    · split
      · exact hd
      · next ht =>
        split
        · exact L.of_quiet (quiet_raise ..) hd
        · split
          · exact hd
          · next hl =>
            obtain ⟨hp, hr⟩ := lineRefusal_eq_none hl
            exact L.of_decideDrop _ (L.of_admit _ s ⟨rfl, rfl, rfl, rfl⟩ (Bool.eq_false_iff.2 ht) hp hr h)

/-! ### ABORT (R15) -/

omit L in
/-- What an ABORT's target is, read off the slot or the session that holds the tag (R15). -/
theorem abortTarget_cases (s : State) (tag : Tag) :
    (∃ (i : SlotIx) (slot : Slot), s.pool.slots[i] = some slot ∧ slot.state = .queued ∧
        abortTarget s tag = .queued i) ∨
      (∃ (i : SlotIx) (slot : Slot), s.pool.slots[i] = some slot ∧ slot.state = .active ∧
        abortTarget s tag = .active i) ∨
      (∃ id, s.config.session = .commitPending id tag ∧ abortTarget s tag = .commit id tag) ∨
      abortTarget s tag = .nothing := by
  unfold abortTarget
  split
  · next i _ =>
    cases hs : s.pool.slots[i] with
    | none => simp
    | some slot =>
      cases hq : slot.state with
      | queued => exact .inl ⟨i, slot, hs, hq, by simp [hq]⟩
      | active => exact .inr (.inl ⟨i, slot, hs, hq, by simp [hq]⟩)
      | abortPending => simp [hq]
      | replying => simp [hq]
  · split
    · next id held hc =>
      by_cases ht : held = tag
      · exact .inr (.inr (.inl ⟨id, ht ▸ hc, by simp [ht]⟩))
      · simp [ht]
    · simp

theorem keeps_abortEffect (f : AbortFrame) {s : State} (hr : placesFull s = false) (h : P s) :
    P (abortEffect f s) := by
  unfold abortEffect
  rcases abortTarget_cases s (tagOf f.target) with ⟨i, slot, hs, hq, e⟩ | ⟨i, slot, hs, hq, e⟩ | ⟨id, hc, e⟩ | e <;>
    rw [e]
  · refine L.keeps_answer ?_ (L.of_abortQueued i slot s hs hq h)
    rw [placesFull_congr (placesTaken_completeSlot ..)]
    exact hr
  · exact L.keeps_answer hr (L.of_abortActive i slot s hs hq h)
  · refine L.keeps_answer ?_ (L.of_withdraw id _ s hc h)
    rw [placesFull_congr (placesTaken_withdrawCommit hc)]
    exact hr
  · exact L.keeps_answer hr h

theorem keeps_intakeAbort (f : AbortFrame) {s : State} (h : P s) : P (intakeAbort f s) := by
  unfold intakeAbort
  refine L.keeps_decideA ?_
  split
  · exact L.of_quiet (quiet_bump ..) h
  · next hr =>
    have hr : placesFull s = false := Bool.eq_false_iff.2 hr
    split
    · exact L.keeps_answer hr h
    · split
      · exact L.keeps_answer hr h
      · exact L.keeps_abortEffect f hr h

/-! ### Owners of MANAGE frames -/

/-- What the checks of R103 tell an owner: its reply has a place, and the frame's tag is free. -/
theorem keeps_manageChecks {f : ManageFrame} {rest : State → State} {s : State}
    (hk : placesFull s = false → tagInUse s (tagOf f.tag) = false → P (rest s)) (h : P s) :
    P (manageChecks f rest s) := by
  unfold manageChecks
  refine L.keeps_decideA ?_
  split
  · exact L.of_quiet (quiet_bump ..) h
  · next hr =>
    have hr : placesFull s = false := Bool.eq_false_iff.2 hr
    split
    · exact L.keeps_reply hr h
    · split
      · exact L.keeps_reply hr h
      · next ht => exact hk hr (Bool.eq_false_iff.2 ht)

theorem keeps_ownEditOpen (f : ManageFrame) {s : State} (hr : placesFull s = false) (h : P s) :
    P (ownEditOpen f s) := by
  unfold ownEditOpen
  split
  · next hs => exact L.keeps_reply_of_quiet (quiet_edit s _ (by rw [hs]; rfl) rfl rfl fun ha _ => ha) hr h
  · exact L.keeps_reply hr h

theorem keeps_ownEditClose (f : ManageFrame) {s : State} (hr : placesFull s = false) (h : P s) :
    P (ownEditClose f s) := by
  unfold ownEditClose
  split
  · exact L.keeps_reply hr h
  · next hs =>
    split
    · exact L.keeps_reply_of_quiet (quiet_closeSession (by rw [hs]; rfl)) hr h
    · exact L.keeps_reply hr h
  · split <;> exact L.keeps_reply hr h

theorem keeps_ownEntryWrite (f : ManageFrame) {s : State} (hr : placesFull s = false) (h : P s) :
    P (ownEntryWrite f s) := by
  unfold ownEntryWrite
  split
  · exact L.keeps_reply hr h
  · split
    · exact L.keeps_reply hr h
    · split <;> exact L.keeps_reply hr h
    · next hs =>
      have hn : s.config.session.heldTag = none := by rw [hs]; rfl
      split
      · exact L.keeps_reply hr h
      · split
        · exact L.keeps_reply_of_quiet (quiet_startSessionTimer _ hn) hr h
        · next b hb =>
          refine L.keeps_reply_of_quiet (quiet_edit s _ hn rfl rfl fun _ hsh => ?_) hr h
          exact writtenShadow_inRange hb hsh

theorem keeps_ownEntryRead (f : ManageFrame) {s : State} (hr : placesFull s = false) (h : P s) :
    P (ownEntryRead f s) := by
  unfold ownEntryRead
  split
  · exact L.keeps_reply hr h
  · split
    · exact L.keeps_reply hr h
    · split
      · split
        · exact L.keeps_reply hr h
        · next hs =>
          split
          · exact L.keeps_reply_of_quiet (quiet_startSessionTimer _ (by rw [hs]; rfl)) hr h
          · exact L.keeps_reply hr h
        · split <;> exact L.keeps_reply hr h
      · exact L.keeps_reply hr h

theorem keeps_ownCommit (f : ManageFrame) {s : State} (hr : placesFull s = false)
    (ht : tagInUse s (tagOf f.tag) = false) (h : P s) : P (ownCommit f s) := by
  unfold ownCommit
  split
  · exact L.keeps_reply hr h
  · split <;> exact L.keeps_reply hr h
  · next hs =>
    have hn : s.config.session.heldTag = none := by rw [hs]; rfl
    split
    · exact L.keeps_reply hr h
    · split
      · exact L.keeps_reply_of_quiet (quiet_startSessionTimer _ hn) hr h
      · exact L.of_pend _ _ s hr ht hn h

theorem keeps_ownNodeRead (f : ManageFrame) {s : State} (hr : placesFull s = false) (h : P s) :
    P (ownNodeRead f s) := by
  unfold ownNodeRead
  split <;> exact L.keeps_reply hr h

theorem keeps_ownNodeEnable (f : ManageFrame) {s : State} (hr : placesFull s = false) (h : P s) :
    P (ownNodeEnable f s) := by
  unfold ownNodeEnable
  split
  · exact L.keeps_reply hr h
  · split
    · exact L.keeps_reply hr h
    · exact L.keeps_reply_of_quiet (quiet_modifyHealth ..) hr h
    · exact L.keeps_reply hr h

omit L in
theorem placesTaken_disableNode (n : NodeIx) (s : State) : placesTaken (disableNode n s) = placesTaken s := by
  unfold disableNode
  rw [(quiet_evalNodeIndicator _).placesTaken, (quiet_unlistProbe ..).placesTaken,
    (quiet_modifyHealth ..).placesTaken, (quiet_failCellsOf ..).placesTaken, placesTaken_flush,
    (quiet_modifyHealth ..).placesTaken]

theorem keeps_disableNode (n : NodeIx) {s : State} (h : P s) : P (disableNode n s) := by
  have hf := L.of_flush (addressedTo (nodeAddr n)) .nodeDisabled _
    (L.of_quiet (quiet_modifyHealth n (fun h => { h with state := .disabled }) s) h)
  exact L.of_quiet
    ((quiet_failCellsOf ..).trans
      ((quiet_modifyHealth ..).trans ((quiet_unlistProbe ..).trans (quiet_evalNodeIndicator _)))) hf

theorem keeps_ownNodeDisable (f : ManageFrame) {s : State} (hr : placesFull s = false) (h : P s) :
    P (ownNodeDisable f s) := by
  unfold ownNodeDisable
  split
  · exact L.keeps_reply hr h
  · split
    · exact L.keeps_reply hr h
    · exact L.keeps_reply hr h
    · exact L.keeps_reply ((placesFull_congr (placesTaken_disableNode ..)).trans hr) (L.keeps_disableNode _ h)

theorem keeps_ownNodeRevive (f : ManageFrame) {s : State} (hr : placesFull s = false) (h : P s) :
    P (ownNodeRevive f s) := by
  unfold ownNodeRevive
  split
  · exact L.keeps_reply hr h
  · split
    · exact L.keeps_reply hr h
    · exact L.keeps_reply hr h
    · unfold reviveOffline
      dsimp only
      split
      · exact L.keeps_reply hr h
      · split
        · exact L.keeps_reply hr h
        · exact L.keeps_reply hr h
        · next hj hi =>
          split
          · refine L.keeps_reply ?_ (L.of_decideDrop _ (L.of_listProbe _ s hj hi h))
            rw [placesFull_congr (placesTaken_decideDrop _)]
            exact hr
          · exact L.keeps_reply hr h
    · exact L.keeps_reply hr h

theorem keeps_cancelPending {s : State} (h : P s) : P (cancelPending s) := by
  unfold cancelPending
  split
  · next tag ht => exact L.of_cancelIsolate tag s ht h
  · exact h

omit L in
theorem placesTaken_cancelPending (s : State) : placesTaken (cancelPending s) = placesTaken s := by
  unfold cancelPending
  split
  · next tag ht => exact placesTaken_cancelIsolate ht
  · rfl

theorem keeps_ownDropResume (f : ManageFrame) {s : State} (hr : placesFull s = false) (h : P s) :
    P (ownDropResume f s) := by
  have hc : P (answerPort f (cancelPending s)) :=
    L.keeps_reply ((placesFull_congr (placesTaken_cancelPending s)).trans hr) (L.keeps_cancelPending h)
  unfold ownDropResume
  split
  · next hp =>
    refine L.of_decideDrop _ (L.keeps_reply (s := leaveIsolated s) hr ?_)
    exact L.of_leaveOut _ s (.inr hp) rfl rfl rfl h
  · exact hc
  · exact hc
  · exact hc
  · exact L.keeps_reply hr h
  · exact L.keeps_reply hr h
  · exact L.keeps_reply hr h

theorem keeps_ownNoticeAck (f : ManageFrame) {s : State} (hr : placesFull s = false) (h : P s) :
    P (ownNoticeAck f s) := by
  unfold ownNoticeAck
  split
  · refine L.keeps_reply_of_quiet (.ofNotices s _ fun hl => ?_) hr h
    unfold NoticeQueue.acknowledge
    dsimp only
    split
    · exact hl
    · exact List.length_eraseP_le.trans hl
  · exact L.keeps_reply hr h

theorem keeps_ownNoticeMask (f : ManageFrame) {s : State} (hr : placesFull s = false) (h : P s) :
    P (ownNoticeMask f s) := by
  unfold ownNoticeMask
  split
  · exact L.keeps_reply hr h
  · exact L.keeps_reply_of_quiet (.ofNotices s _ (List.length_filter_le ..).trans) hr h

theorem keeps_ownCountersRead (f : ManageFrame) {s : State} (hr : placesFull s = false) (h : P s) :
    P (ownCountersRead f s) := by
  unfold ownCountersRead
  dsimp only
  split
  · exact L.keeps_reply_of_quiet (quiet_capture ..) hr h
  · split <;> exact L.keeps_reply hr h

theorem keeps_broadcastSegmentReset {s : State} (h : P s) : P (broadcastSegmentReset s) :=
  L.of_quiet (quiet_raise ..) (L.of_softReset s h)

theorem keeps_ownSegmentReset (f : ManageFrame) {s : State} (h : P s) : P (ownSegmentReset f s) :=
  L.of_quiet (quiet_raise ..) (L.keeps_reply (s := softReset s) rfl (L.of_softReset s h))

/-- The owner of each code keeps a law, once the checks of R103 have passed. -/
theorem keeps_ownerOf (code : ManageCode) (t : Arrival) (f : ManageFrame) {s : State} (hr : placesFull s = false)
    (ht : tagInUse s (tagOf f.tag) = false) (h : P s) : P (ownerOf code t f s) := by
  cases code with
  | editOpen => exact L.keeps_ownEditOpen f hr h
  | editClose => exact L.keeps_ownEditClose f hr h
  | entryWrite => exact L.keeps_ownEntryWrite f hr h
  | entryRead => exact L.keeps_ownEntryRead f hr h
  | commit => exact L.keeps_ownCommit f hr ht h
  | nodeRead => exact L.keeps_ownNodeRead f hr h
  | nodeEnable => exact L.keeps_ownNodeEnable f hr h
  | nodeDisable => exact L.keeps_ownNodeDisable f hr h
  | nodeRevive => exact L.keeps_ownNodeRevive f hr h
  | cellRead =>
    change P (ownCellRead f s)
    unfold ownCellRead
    split <;> exact L.keeps_reply hr h
  | dropIsolate => exact L.of_dropIsolate f s hr ht h
  | dropResume => exact L.keeps_ownDropResume f hr h
  | noticeAck => exact L.keeps_ownNoticeAck f hr h
  | noticeMask => exact L.keeps_ownNoticeMask f hr h
  | clockRead => exact L.keeps_reply hr h
  | epochSet => exact L.keeps_reply_of_quiet (quiet_setEpoch t f s) hr h
  | statusRead => exact L.keeps_reply hr h
  | countersRead => exact L.keeps_ownCountersRead f hr h
  | segmentReset => exact L.keeps_ownSegmentReset f h

theorem keeps_intakeManage (code : ManageCode) (t : Arrival) (f : ManageFrame) {s : State} (h : P s) :
    P (intakeManage code (ownerOf code t) f s) := by
  refine L.keeps_manageChecks (fun hr ht => ?_) h
  split
  · exact L.keeps_ownerOf code t f hr ht h
  · exact L.keeps_reply hr h

theorem keeps_intakeUnknown (code : Byte) (f : ManageFrame) {s : State} (h : P s) : P (intakeUnknown code f s) :=
  L.keeps_manageChecks (fun hr _ => L.keeps_reply hr h) h

theorem keeps_intakeBroadcastManage (code : ManageCode) {effect : ManageFrame → State → State} (f : ManageFrame)
    {s : State} (hk : P (effect f s)) (h : P s) : P (intakeBroadcastManage code effect f s) := by
  unfold intakeBroadcastManage
  refine L.keeps_decideA ?_
  split
  · exact L.of_quiet (quiet_bump ..) h
  · exact hk

/-! ### Frames on the trunk ports -/

theorem keeps_intakeDirect (t : Arrival) (p : Downstream) {s : State} (h : P s) : P (intakeDirect t p s) := by
  cases p with
  | request op f => exact L.keeps_intakeRequest op f h
  | abort f => exact L.keeps_intakeAbort f h
  | manage code f =>
    change P (intakeManageCode t code f s)
    unfold intakeManageCode
    split
    · exact L.keeps_intakeUnknown code f h
    · exact L.keeps_intakeManage _ t f h
  | short => exact L.keeps_decideA (L.of_quiet (quiet_bump ..) h)

theorem keeps_intakeBroadcast (t : Arrival) (p : Downstream) {s : State} (h : P s) : P (intakeBroadcast t p s) := by
  have hd : P (decideA (discardFrame s)) := L.keeps_decideA (L.of_quiet (quiet_bump ..) h)
  unfold intakeBroadcast
  split
  · exact L.keeps_intakeBroadcastWrite _ h
  · exact hd
  · exact hd
  · split
    · exact L.keeps_intakeBroadcastManage _ _ (L.of_quiet (quiet_setEpoch ..) h) h
    · exact L.keeps_intakeBroadcastManage _ _ (L.keeps_broadcastSegmentReset h) h
    · exact hd
  · exact hd

theorem keeps_sortDownstream (t : Arrival) (bytes : List Byte) {s : State} (h : P s) :
    P (sortDownstream t bytes s) := by
  have hr : P (relayDown bytes (arrivalInstant t s) s) := L.of_quiet (quiet_relayDown ..) h
  unfold sortDownstream
  split
  · exact hr
  · split
    · exact L.keeps_intakeDirect t _ h
    · split
      · exact L.keeps_intakeBroadcast t _ hr
      · exact L.keeps_decideA hr

theorem keeps_takeA (t : Arrival) (f : RawFrame) {s : State} (h : P s) : P (takeA t f s) := by
  unfold takeA
  split
  · exact h
  · split
    · exact L.of_quiet (quiet_bump ..) h
    · split
      · exact L.of_quiet (quiet_bump ..) h
      · exact L.keeps_sortDownstream t _ (L.of_quiet (quiet_bump ..) h)

theorem keeps_running (us : Nat) {k : State → State} (hk : ∀ s, P s → P (k s)) {s : State} (h : P s) :
    P (running us k s) := by
  unfold running
  split
  · exact h
  · exact hk _ (L.of_quiet (quiet_advance ..) h)

theorem keeps_takeDirect (t : Arrival) (p : Downstream) {k : State → State} (hk : ∀ s, P s → P (k s)) {s : State}
    (h : P s) : P (takeDirect t p k s) := by
  unfold takeDirect
  refine L.keeps_running _ (fun s h => ?_) h
  have hb : ∀ c, P (bump c s) := fun c => L.of_quiet (quiet_bump ..) h
  split
  · exact h
  · split
    · exact hb _
    · split
      · exact L.of_quiet (quiet_relayDown ..) (hb _)
      · exact hk _ (hb _)

theorem keeps_takeBroadcast (t : Arrival) (p : Downstream) {k : State → State} (hk : ∀ s, P s → P (k s)) {s : State}
    (h : P s) : P (takeBroadcast t p k s) := by
  unfold takeBroadcast
  refine L.keeps_running _ (fun s h => ?_) h
  split
  · exact h
  · split
    · exact L.of_quiet (quiet_bump ..) h
    · have hr := L.of_quiet ((quiet_bump .aReceived s).trans (quiet_relayDown
        (downstreamBytes Config.repeaterStrap p) (arrivalInstant t s) _)) h
      dsimp only
      split
      · exact hr
      · exact hk _ hr

/-! ### Every step -/

omit L in
/-- The law holds in the one state a command answers. -/
theorem of_next {a u : State} (h : P a) (hu : (.next a : Host.Outcome State Fault Refusal) = .next u) : P u :=
  Host.Outcome.next.inj hu ▸ h

/-- Every command keeps the law. -/
theorem exec {i : Instr} {s u : State} (h : P s) (hu : Machine.exec i s = .next u) : P u := by
  have hm : ∀ code t f,
      P (takeDirect t (.manage (ManageCode.byte code) f) (intakeManage code (ownerOf code t) f) s) :=
    fun code t f => L.keeps_takeDirect t _ (fun _ => L.keeps_intakeManage code t f) h
  cases i with
  | hardReset straps => exact of_next (L.at_release straps _) hu
  | trunkAUp dt => exact of_next (L.keeps_running dt (fun _ => L.keeps_linkAUp) h) hu
  | trunkADown dt => exact of_next (L.keeps_running dt (fun s => L.of_quiet (quiet_linkADown s)) h) hu
  | trunkBUp dt => exact of_next (L.keeps_running dt (fun s => L.of_quiet (quiet_linkBUp s)) h) hu
  | trunkBDown dt => exact of_next (L.keeps_running dt (fun s => L.of_quiet (quiet_linkBDown s)) h) hu
  | aFrameReceived t f => exact of_next (L.keeps_running t.elapsed (fun _ => L.keeps_takeA t f) h) hu
  | bFrameReceived dt f => exact of_next (L.keeps_running dt (fun _ => L.keeps_takeB f) h) hu
  | bTransmitEnd dt => exact of_next (L.keeps_running dt (fun s => L.of_quiet (quiet_transmissionBEnds s)) h) hu
  | aTransmitEnd dt => exact of_next (L.keeps_running dt (fun _ => L.keeps_transmissionAEnds) h) hu
  | read t f => exact of_next (L.keeps_takeDirect t _ (fun _ => L.keeps_intakeRequest .read f) h) hu
  | write t f => exact of_next (L.keeps_takeDirect t _ (fun _ => L.keeps_intakeRequest .write f) h) hu
  | broadcastWrite t f => exact of_next (L.keeps_takeBroadcast t _ (fun _ => L.keeps_intakeBroadcastWrite f) h) hu
  | abort t f => exact of_next (L.keeps_takeDirect t _ (fun _ => L.keeps_intakeAbort f) h) hu
  | editOpen t f => exact of_next (hm .editOpen t f) hu
  | editClose t f => exact of_next (hm .editClose t f) hu
  | entryWrite t f => exact of_next (hm .entryWrite t f) hu
  | entryRead t f => exact of_next (hm .entryRead t f) hu
  | commit t f => exact of_next (hm .commit t f) hu
  | nodeRead t f => exact of_next (hm .nodeRead t f) hu
  | nodeEnable t f => exact of_next (hm .nodeEnable t f) hu
  | nodeDisable t f => exact of_next (hm .nodeDisable t f) hu
  | nodeRevive t f => exact of_next (hm .nodeRevive t f) hu
  | cellRead t f => exact of_next (hm .cellRead t f) hu
  | dropIsolate t f => exact of_next (hm .dropIsolate t f) hu
  | dropResume t f => exact of_next (hm .dropResume t f) hu
  | noticeAck t f => exact of_next (hm .noticeAck t f) hu
  | noticeMask t f => exact of_next (hm .noticeMask t f) hu
  | clockRead t f => exact of_next (hm .clockRead t f) hu
  | epochSet t scope f =>
    cases scope with
    | direct => exact of_next (hm .epochSet t f) hu
    | broadcast =>
      exact of_next (L.keeps_takeBroadcast t _
        (fun s h => L.keeps_intakeBroadcastManage .epochSet f (L.of_quiet (quiet_setEpoch t f s) h) h) h) hu
  | statusRead t f => exact of_next (hm .statusRead t f) hu
  | countersRead t f => exact of_next (hm .countersRead t f) hu
  | segmentReset t scope f =>
    cases scope with
    | direct => exact of_next (hm .segmentReset t f) hu
    | broadcast =>
      exact of_next (L.keeps_takeBroadcast t _
        (fun _ h => L.keeps_intakeBroadcastManage .segmentReset f (L.keeps_broadcastSegmentReset h) h) h) hu
  | unknownCode t code f => exact of_next (L.keeps_takeDirect t _ (fun _ => L.keeps_intakeUnknown code f) h) hu
  | guardSilenceReached dt => exact of_next (L.keeps_running dt (fun _ => L.keeps_guardSilence) h) hu
  | busyLimitInGuard dt => exact of_next (L.keeps_running dt (fun _ => L.keeps_busyInGuard) h) hu
  | requestFrameSent dt => exact of_next (L.keeps_running dt (fun _ => L.keeps_frameSent) h) hu
  | strayCharacter dt ch => exact of_next (L.keeps_running dt (fun _ => L.keeps_characterEnds ch) h) hu
  | responseFirstCharacter dt ch => exact of_next (L.keeps_running dt (fun _ => L.keeps_characterEnds ch) h) hu
  | responseCharacter dt ch => exact of_next (L.keeps_running dt (fun _ => L.keeps_characterEnds ch) h) hu
  | responseDeadline dt => exact of_next (L.keeps_running dt (fun _ => L.keeps_deadlineReached) h) hu
  | responseTruncated dt => exact of_next (L.keeps_running dt (fun _ => L.keeps_truncated) h) hu
  | discardSilenceReached dt => exact of_next (L.keeps_running dt (fun _ => L.keeps_endDiscard guardSilent) h) hu
  | discardBusyLimit dt => exact of_next (L.keeps_running dt (fun _ => L.keeps_endDiscard discardOverdue) h) hu
  | jamCleared dt => exact of_next (L.keeps_running dt (fun _ => L.keeps_jamSilence) h) hu
  | sendingTailEnd dt => exact of_next (L.keeps_running dt (fun _ => L.keeps_tailEnd) h) hu
  | baseCycleBoundary dt => exact of_next (L.keeps_running dt (fun _ => L.keeps_boundaryReached) h) hu
  | freshnessExpiry dt cell => exact of_next (L.keeps_running dt (fun s => L.of_quiet (quiet_freshnessPast cell s)) h) hu
  | probeTimerExpiry dt node => exact of_next (L.keeps_running dt (fun _ => L.keeps_probeDueReached node) h) hu
  | sessionTimerExpiry dt => exact of_next (L.keeps_running dt (fun _ => L.keeps_sessionExpiry) h) hu
  | noticeResendExpiry dt => exact of_next (L.keeps_running dt (fun _ => L.keeps_resendExpiry) h) hu
  | hardResetBegin source => exact of_next (L.at_begin source _) hu

/-- Every step keeps the law. -/
theorem step {s u : State} (h : P s) (hu : Machine.step s = .next u) : P u := by
  unfold Machine.step at hu
  split at hu
  · exact of_next (L.keeps_running 1 (fun _ h => h) h) hu
  · exact L.exec (L.of_quiet (quiet_pending _ s) h) hu

end StepLaws

end Sys2Proof.Machine
end

section
/-! PROOF. Updates made of quiet ones and flushes, and the law that no claim waits while the port is out of service. -/

namespace Sys2Proof.Machine

/-! ### Quiet updates and flushes in any order -/

/-- `u` is reached from `s` by quiet updates and flushes: what an outcome at a node or a change of the node table can do. -/
inductive Flushes : State → State → Prop where
  | quiet {s u : State} : Quiet s u → Flushes s u
  | flush (p : Slot → Bool) (status : Status) (s : State) : Flushes s (flush p status s)
  | trans {s t u : State} : Flushes s t → Flushes t u → Flushes s u

/-- What quiet updates and flushes each keep, they keep in any order. -/
theorem Flushes.keeps {P : State → Prop} (hq : ∀ {s u}, Quiet s u → P s → P u)
    (hf : ∀ p status s, P s → P (Machine.flush p status s)) {s u : State} (h : Flushes s u) : P s → P u := by
  induction h with
  | quiet q => exact hq q
  | flush p status s => exact hf p status s
  | trans _ _ ih1 ih2 => exact ih2 ∘ ih1

theorem flushes_foldl {α : Type} {f : State → α → State} (h : ∀ s a, Flushes s (f s a)) (l : List α) (s : State) :
    Flushes s (l.foldl f s) := by
  induction l generalizing s with
  | nil => exact .quiet (.refl s)
  | cons a l ih => exact (h s a).trans (ih _)

theorem flushes_enterOffline (n : NodeIx) (s : State) : Flushes s (enterOffline n s) :=
  .trans (.quiet (quiet_modifyHealth ..)) <| .trans (.flush ..) <|
    .quiet <| (quiet_failCellsOf ..).trans <| (quiet_armProbe ..).trans <|
      (quiet_raise ..).trans (quiet_evalNodeIndicator _)

theorem flushes_applyFailure (n : NodeIx) (s : State) : Flushes s (applyFailure n s) := by
  unfold applyFailure
  dsimp only
  split
  · exact .quiet (.refl s)
  · exact .quiet (.refl s)
  · exact .quiet (quiet_modifyHealth ..)
  · split
    · exact .trans (.quiet (quiet_modifyHealth ..)) (flushes_enterOffline ..)
    · exact .quiet ((quiet_modifyHealth ..).trans (quiet_modifyHealth ..))

theorem flushes_applyOutcome (n : NodeIx) (result : DropResult) (latency : Word32) (s : State) :
    Flushes s (applyOutcome n result latency s) := by
  cases result with
  | ok data => exact .quiet (quiet_applyAnswer ..)
  | exception code => exact .quiet (quiet_applyAnswer ..)
  | timeout => exact flushes_applyFailure ..
  | corrupt d => exact flushes_applyFailure ..

theorem flushes_probeOutcome (n : NodeIx) (result : DropResult) (latency : Word32) (s : State) :
    Flushes s (probeOutcome n result latency s) := by
  have h := Flushes.trans (.quiet (quiet_modifyHealth n (fun h => { h with claim := .none }) s))
    (flushes_applyOutcome n result latency _)
  unfold probeOutcome
  dsimp only
  split
  · exact h
  · exact h
  · split
    · exact h.trans (.quiet (quiet_armProbe ..))
    · exact h

theorem flushes_deliverToMonitor (t : Txn) (result : DropResult) (s : State) :
    Flushes s (deliverToMonitor t result s) := by
  unfold deliverToMonitor
  split
  · exact .quiet (.refl s)
  · exact flushes_applyOutcome ..
  · exact .quiet (.refl s)

theorem flushes_updatePresence (before after : Bool) (n : NodeIx) (s : State) :
    Flushes s (updatePresence before after n s) := by
  unfold updatePresence
  split
  · exact .quiet (.refl s)
  · exact .quiet (quiet_modifyHealth ..)
  · exact .quiet (.refl s)
  · exact .trans (.quiet (quiet_modifyHealth ..)) <| .trans (.flush ..) <|
      .quiet <| (quiet_unlistProbe ..).trans <| (quiet_modifyHealth ..).trans (quiet_evalNodeIndicator _)

theorem flushes_updateNodes (old : Tables) (s : State) : Flushes s (updateNodes old s) :=
  flushes_foldl (fun _ _ => flushes_updatePresence ..) _ _

/-! ### The application of a commit (R122) -/

/-- The last part of an applied commit but its notice: the session is CLOSED and the COMMIT answered (R122). -/
def commitAnswered (tag : Tag) (s : State) : State :=
  deferredReply tag .ok [.raw (be32 s.config.generation)] { s with config := { s.config with session := .closed } }

theorem applyCommit_eq (tag : Tag) (s : State) :
    applyCommit tag s =
      raise .configApplied none ((installShadow s).config.generation.setWidth 16)
        (commitAnswered tag (rebuildMirror s.config.active (updateNodes s.config.active (installShadow s)))) := by
  simp [applyCommit, commitAnswered]

theorem commitAnswered_keeps (tag : Tag) (s : State) :
    (commitAnswered tag s).engine = s.engine ∧ (commitAnswered tag s).pool = s.pool ∧
    (commitAnswered tag s).calendar = s.calendar ∧ (commitAnswered tag s).monitor = s.monitor ∧
    (commitAnswered tag s).notices = s.notices ∧ (commitAnswered tag s).config.active = s.config.active ∧
    (commitAnswered tag s).config.shadow = s.config.shadow := by
  simp [commitAnswered]

/-! ### Queues and lists emptied (R17, R19, R44) -/

/-- No request, poll or probe waits for a grant. -/
def ClaimsClear (s : State) : Prop :=
  s.pool.urgent = [] ∧ s.pool.normal = [] ∧ s.pool.bulk = [] ∧ s.calendar.dueList = [] ∧ s.monitor.probeList = []

@[simp] theorem dropProbe_probeList (n : NodeIx) (s : State) :
    (dropProbe n s).monitor.probeList = s.monitor.probeList := by
  unfold dropProbe
  dsimp only
  split <;> rfl

@[simp] theorem emptyProbeList_probeList (s : State) : (emptyProbeList s).monitor.probeList = [] :=
  foldl_keeps (fun s => s.monitor.probeList) _ (fun s n => dropProbe_probeList n s) _ _

/-- A flush by port leaves no claim waiting (R19). -/
theorem flushPort_clear (status : Status) (s : State) : ClaimsClear (flushPort status s) := by
  have hq := flush_all_queues status s
  simpa [ClaimsClear, flushPort, -flush_queues] using hq

theorem isolate_clear {answerIsolate : State → State}
    (h : ∀ s, (answerIsolate s).pool = s.pool ∧ (answerIsolate s).calendar = s.calendar ∧
      (answerIsolate s).monitor = s.monitor) (s : State) : ClaimsClear (isolate answerIsolate s) := by
  unfold isolate ClaimsClear
  dsimp only
  rw [(h _).1, (h _).2.1, (h _).2.2]
  exact flushPort_clear ..

theorem isolateForPending_clear (tag : Tag) (s : State) : ClaimsClear (isolateForPending tag s) :=
  isolate_clear (fun _ => ⟨rfl, rfl, rfl⟩) s

/-- The granted transaction has ended and the port is JAMMED, before the flush by port (R11, R40). -/
def jamAbandon (s : State) : State :=
  { jamTransaction s with engine := { clearAttempt (jamTransaction s).engine with port := .jammed, txn := none } }

/-- The jam start and the busy limit in force are set (R40). -/
def jamStarted (s : State) : State :=
  { s with engine := { s.engine with jamStart := some s.time.clock, busyLimit := s.config.active.segment.busyLimit } }

theorem enterJammed_eq (s : State) :
    enterJammed s =
      bump .lineFaults
        (setLineIndicator true
          (raise .lineFault none (BitVec.ofNat 16 (jamCount s))
            (jamStarted (flushPort .lineFault (jamAbandon s))))) := rfl

theorem enterJammed_clear (s : State) : ClaimsClear (enterJammed s) := by
  have h := flushPort_clear .lineFault (jamAbandon s)
  simpa [ClaimsClear, enterJammed_eq, jamStarted] using h

@[simp] theorem unlistProbe_probeList (n : NodeIx) (s : State) :
    (unlistProbe n s).monitor.probeList = s.monitor.probeList.filter (fun m => m != n) := rfl

/-! ### No claim waits while the port is out of service (R17, R41, R45, R72) -/

theorem noClaim_of_clear {s : State} (h : ClaimsClear s) : NoClaimOutOfService s := fun _ => h

theorem noClaim_of_inService {s : State} (hj : s.engine.port ≠ .jammed) (hi : s.engine.port ≠ .isolated) :
    NoClaimOutOfService s := fun h => absurd h (not_or.2 ⟨hj, hi⟩)

/-- A law on the port and the claims is kept where the port is the same and no empty queue or list gains a claim. -/
theorem noClaim_mono {s u : State} (hp : u.engine.port = s.engine.port) (hc : ClaimsClear s → ClaimsClear u)
    (h : NoClaimOutOfService s) : NoClaimOutOfService u := fun ho => hc (h (hp ▸ ho))

theorem noClaim_of_quiet {s u : State} (q : Quiet s u) (h : NoClaimOutOfService s) : NoClaimOutOfService u := by
  refine noClaim_mono q.port ?_ h
  rintro ⟨hu, hn, hb, hd, hl⟩
  exact ⟨by rw [q.pool, hu], by rw [q.pool, hn], by rw [q.pool, hb], q.due hd, q.probes hl⟩

theorem noClaim_flush (p : Slot → Bool) (status : Status) (s : State) (h : NoClaimOutOfService s) :
    NoClaimOutOfService (flush p status s) := by
  refine noClaim_mono (by simp) ?_ h
  rintro ⟨hu, hn, hb, hd, hl⟩
  simp [ClaimsClear, hu, hn, hb, hd, hl]

/-- Entry into GUARD leaves the port in GUARD or SENDING (R27, R29). -/
theorem enterGuard_port (t : Txn) (s : State) :
    (enterGuard t s).engine.port = .guard ∨ (enterGuard t s).engine.port = .sending := by
  unfold enterGuard
  split
  · exact .inr rfl
  · exact .inl rfl

theorem grantHost_port (i : SlotIx) (s : State) :
    (grantHost i s).engine.port = s.engine.port ∨ (grantHost i s).engine.port = .guard ∨
      (grantHost i s).engine.port = .sending := by
  unfold grantHost
  split
  · exact .inl rfl
  · exact .inr (enterGuard_port ..)

/-- A grant decision in IDLE leaves the port in service (R6, R9). -/
theorem takeGrant_port (g : Grant) {s : State} (h : s.engine.port = .idle) :
    (takeGrant g s).engine.port = .idle ∨ (takeGrant g s).engine.port = .guard ∨
      (takeGrant g s).engine.port = .sending := by
  cases g with
  | urgent i rest => exact h ▸ grantHost_port i { s with pool := { s.pool with urgent := rest } }
  | poll i rest => exact .inr (enterGuard_port ..)
  | probe n rest => exact .inr (enterGuard_port ..)
  | normal i rest credit => exact h ▸ grantHost_port i { s with pool := { s.pool with normal := rest, credit := credit } }
  | bulk i rest => exact h ▸ grantHost_port i { s with pool := { s.pool with bulk := rest, credit := 0 } }

theorem noClaim_decideDrop (s : State) (h : NoClaimOutOfService s) : NoClaimOutOfService (decideDrop s) := by
  unfold decideDrop
  split
  · next hp =>
    split
    · exact h
    · next g _ =>
      rcases takeGrant_port g hp with e | e | e <;> exact noClaim_of_inService (by simp [e]) (by simp [e])
  · exact h

theorem discardBroadcastHeads_queues (l : List UpEntry) (s : State) :
    (discardBroadcastHeads l s).pool.urgent = s.pool.urgent ∧
    (discardBroadcastHeads l s).pool.normal = s.pool.normal ∧
    (discardBroadcastHeads l s).pool.bulk = s.pool.bulk ∧
    (discardBroadcastHeads l s).pool.credit = s.pool.credit := by
  induction l generalizing s with
  | nil => and_intros <;> rfl
  | cons e l ih =>
    unfold discardBroadcastHeads
    split
    · split
      · simp [ih, freeSlot]
      · simp
    · simp

theorem upstreamSent_queues (s : State) :
    (upstreamSent s).pool.urgent = s.pool.urgent ∧ (upstreamSent s).pool.normal = s.pool.normal ∧
    (upstreamSent s).pool.bulk = s.pool.bulk ∧ (upstreamSent s).pool.credit = s.pool.credit := by
  unfold upstreamSent
  split
  · simp
  · dsimp only
    split <;> simp [freeSlot]

theorem noClaim_ownDropIsolate (f : ManageFrame) (s : State) (h : NoClaimOutOfService s) :
    NoClaimOutOfService (ownDropIsolate f s) := by
  have hi : ∀ u, NoClaimOutOfService (isolate (answerPort f) u) := fun u =>
    noClaim_of_clear (isolate_clear (fun _ => ⟨rfl, rfl, rfl⟩) u)
  unfold ownDropIsolate
  split
  · exact hi _
  · exact hi _
  · exact hi _
  · exact h
  · split <;> exact h

theorem noClaim_leaveTransaction (s : State) : NoClaimOutOfService (leaveTransaction s) := by
  unfold leaveTransaction
  split
  · exact noClaim_of_clear (isolateForPending_clear ..)
  · exact noClaim_of_inService (by simp) (by simp)

theorem noClaim_leaveTail (s : State) : NoClaimOutOfService (leaveTail s) := by
  unfold leaveTail
  dsimp only
  split
  · exact noClaim_of_clear (isolateForPending_clear ..)
  · exact noClaim_of_inService (by simp) (by simp)

theorem noClaim_applyCommit (tag : Tag) (s : State) (h : NoClaimOutOfService s) :
    NoClaimOutOfService (applyCommit tag s) := by
  have hn : NoClaimOutOfService (updateNodes s.config.active (installShadow s)) :=
    (flushes_updateNodes ..).keeps noClaim_of_quiet noClaim_flush h
  have hr := noClaim_of_quiet (quiet_rebuildMirror s.config.active _) hn
  rw [applyCommit_eq]
  exact noClaim_of_quiet (quiet_raise ..) (noClaim_mono (by simp [commitAnswered_keeps]) (by
    simp [ClaimsClear, commitAnswered_keeps]) hr)

theorem noClaim_formDue (s : State) (h : NoClaimOutOfService s) : NoClaimOutOfService (formDue s) := by
  intro ho
  replace ho : s.engine.port = .jammed ∨ s.engine.port = .isolated := ho
  obtain ⟨hu, hn, hb, -, hl⟩ := h ho
  exact ⟨hu, hn, hb, if_pos ho, hl⟩

theorem portRefusal_eq_none {s : State} (h : portRefusal s = none) :
    s.engine.port ≠ .jammed ∧ s.engine.port ≠ .isolated := by
  unfold portRefusal at h
  split at h <;> simp_all

theorem transacting_inService {port : PortState} (h : port.transacting = true) :
    port ≠ .jammed ∧ port ≠ .isolated := by
  cases port <;> simp_all [PortState.transacting]

/-- The operations keep the law that no claim waits while the port is out of service. -/
theorem noClaimLaws : StepLaws NoClaimOutOfService where
  of_quiet := noClaim_of_quiet
  at_begin source s := noClaim_of_clear ⟨rfl, rfl, rfl, rfl, rfl⟩
  at_release straps s := noClaim_of_quiet (quiet_raise ..) (noClaim_of_clear ⟨rfl, rfl, rfl, rfl, rfl⟩)
  of_softReset s _ := noClaim_of_clear ⟨rfl, rfl, rfl, rfl, rfl⟩
  of_placeReply _ _ _ h := h
  of_decideDrop := noClaim_decideDrop
  of_discardHeads s h := noClaim_mono (by simp) (by simp [ClaimsClear, discardBroadcastHeads_queues]) h
  of_upstreamSent s h := noClaim_mono (by simp) (by simp [ClaimsClear, upstreamSent_queues]) h
  of_admit r s _ _ hp _ _ := by
    obtain ⟨hj, hi⟩ := portRefusal_eq_none hp
    exact noClaim_of_inService (by simpa using hj) (by simpa using hi)
  of_abortQueued i slot s _ _ h := by
    refine noClaim_mono (by simp) ?_ h
    rintro ⟨hu, hn, hb, hd, hl⟩
    simp [ClaimsClear, hu, hn, hb, hd, hl]
  of_abortActive i slot s _ _ h := h
  of_withdraw id tag s _ h := h
  of_pend id tag s _ _ _ h := h
  of_apply id tag s _ := noClaim_applyCommit tag s
  of_flush := noClaim_flush
  of_listProbe n s hj hi _ := noClaim_of_inService (by simpa using hj) (by simpa using hi)
  of_formDue := noClaim_formDue
  of_dropIsolate f s _ _ := noClaim_ownDropIsolate f s
  of_cancelIsolate tag s _ h := h
  of_leaveOut e s _ he _ _ _ := noClaim_of_inService (by simp [he]) (by simp [he])
  of_transacting e s he _ _ _ := noClaim_of_inService (transacting_inService he).1 (transacting_inService he).2
  of_touchSlot i f s _ _ h := h
  of_deliver t result s _ _ := noClaim_leaveTransaction _
  of_jam s _ _ := noClaim_of_clear (enterJammed_clear s)
  of_leaveTail s _ _ _ := noClaim_leaveTail s

/-- Settles O54: no operation lets a claim join a queue or list while the port is out of service, and every way out of
service flushes them all. -/
theorem everyStepKeepsOutOfServicePortClear : Obligations.EveryStepKeepsOutOfServicePortClear :=
  fun _ _ h hs => noClaimLaws.step h hs

end Sys2Proof.Machine
end

section
/-! PROOF. Updates after which nothing bounded has grown: the relation `Eases`, the operations that are in it, and the laws on
the bounded queues, the reserved slots and the SEGMENT entries (R2, R8, R90, R110, R146, R148, R157). -/

namespace Sys2Proof.Machine

/-! ### Records kept -/

/-- Every occupied slot of `u` was occupied in `s`, by a record of the same class and tag. -/
def KeepsRecords (s u : State) : Prop :=
  ∀ (i : SlotIx) (x : Slot), u.pool.slots[i] = some x → ∃ y, s.pool.slots[i] = some y ∧ y.cls = x.cls ∧ y.tag = x.tag

theorem keepsRecords_of_eq {s u : State} (h : u.pool.slots = s.pool.slots) : KeepsRecords s u :=
  fun i x hx => ⟨x, by rw [← h]; exact hx, rfl, rfl⟩

theorem KeepsRecords.trans {s t u : State} (h : KeepsRecords s t) (k : KeepsRecords t u) : KeepsRecords s u := by
  intro i x hx
  obtain ⟨y, hy, hc, ht⟩ := k i x hx
  obtain ⟨z, hz, hc', ht'⟩ := h i y hy
  exact ⟨z, hz, hc'.trans hc, ht'.trans ht⟩

theorem KeepsRecords.ordinarySlots_le {s u : State} (h : KeepsRecords s u) : ordinarySlots u ≤ ordinarySlots s := by
  unfold ordinarySlots
  rw [countP_slots, countP_slots]
  refine List.countP_mono_left fun i _ hi => ?_
  obtain ⟨x, hx, hc⟩ := (Option.any_eq_true _ _).1 hi
  obtain ⟨y, hy, he, -⟩ := h i x hx
  simpa [-Fin.getElem_fin, hy, he] using hc

/-- Writing a slot keeps the records if the one written has the class and the tag of the one it replaces. -/
theorem keepsRecords_putSlot {i : SlotIx} {x : Option Slot} {s : State}
    (h : ∀ slot, x = some slot → ∃ y, s.pool.slots[i] = some y ∧ y.cls = slot.cls ∧ y.tag = slot.tag) :
    KeepsRecords s (putSlot i x s) := by
  intro j slot hj
  rw [putSlot_slots] at hj
  split at hj
  · next e => exact e ▸ h slot hj
  · exact ⟨slot, hj, rfl, rfl⟩

theorem keepsRecords_modifySlot (i : SlotIx) {f : Slot → Slot}
    (hf : ∀ slot, (f slot).cls = slot.cls ∧ (f slot).tag = slot.tag) (s : State) :
    KeepsRecords s (modifySlot i f s) := by
  refine keepsRecords_putSlot fun slot h => ?_
  obtain ⟨y, hy, rfl⟩ := Option.map_eq_some_iff.1 h
  exact ⟨y, hy, (hf y).1.symm, (hf y).2.symm⟩

theorem keepsRecords_freeSlot (i : SlotIx) (s : State) : KeepsRecords s (freeSlot i s) :=
  keepsRecords_putSlot fun _ h => by cases h

theorem keepsRecords_completeSlot (i : SlotIx) (status : Status) (detail : Byte) (data : List Word) (s : State) :
    KeepsRecords s (completeSlot i status detail data s) := by
  intro j x hx
  rw [completeSlot_slots] at hx
  split at hx
  · obtain ⟨y, hy, rfl⟩ := Option.map_eq_some_iff.1 hx
    exact ⟨y, hy, rfl, rfl⟩
  · exact ⟨x, hx, rfl, rfl⟩

theorem keepsRecords_flush (p : Slot → Bool) (status : Status) (s : State) : KeepsRecords s (flush p status s) := by
  intro j x hx
  rw [flush_slots] at hx
  split at hx
  · obtain ⟨y, hy, rfl⟩ := Option.map_eq_some_iff.1 hx
    exact ⟨y, hy, rfl, rfl⟩
  · exact ⟨x, hx, rfl, rfl⟩

/-! ### Nothing bounded grows -/

/-- From `s` to `u` no slot is taken or changes its class or tag, no tag is held by a COMMIT or an isolate that was not, the
SEGMENT entries and the bulk credit stay in their ranges, no bounded queue passes its bound, and no further place of the
immediate part is taken. -/
structure Eases (s u : State) : Prop where
  records : KeepsRecords s u
  heldTag : u.config.session.heldTag = s.config.session.heldTag ∨ u.config.session.heldTag = none
  isolate : u.engine.pendingIsolate = s.engine.pendingIsolate ∨ u.engine.pendingIsolate = none
  segment : SegmentInRange s → SegmentInRange u
  down : s.trunk.downQueue.length ≤ 8 → u.trunk.downQueue.length ≤ 8
  up : s.trunk.upQueue.length ≤ 8 → u.trunk.upQueue.length ≤ 8
  ordinary : s.notices.ordinary.length ≤ 24 → u.notices.ordinary.length ≤ 24
  places : placesTaken u ≤ placesTaken s

theorem Eases.trans {s t u : State} (h : Eases s t) (k : Eases t u) : Eases s u where
  records := h.records.trans k.records
  heldTag := k.heldTag.elim (fun e => h.heldTag.imp e.trans e.trans) .inr
  isolate := k.isolate.elim (fun e => h.isolate.imp e.trans e.trans) .inr
  segment := k.segment ∘ h.segment
  down := k.down ∘ h.down
  up := k.up ∘ h.up
  ordinary := k.ordinary ∘ h.ordinary
  places := k.places.trans h.places

theorem Quiet.eases {s u : State} (q : Quiet s u) : Eases s u where
  records := keepsRecords_of_eq (by rw [q.pool])
  heldTag := .inl q.heldTag
  isolate := .inl q.isolate
  segment := fun ⟨ha, hs, hc⟩ => ⟨q.active ▸ ha, q.shadow ha hs, by rw [q.pool]; exact hc⟩
  down := q.down
  up := q.up
  ordinary := q.ordinary
  places := q.placesTaken.le

theorem Eases.refl (s : State) : Eases s s := (Quiet.refl s).eases

/-- An update of the calendar, the monitor, or another block that bounds nothing. -/
theorem eases_of_eq {s u : State} (hp : u.pool = s.pool) (he : u.engine = s.engine) (hc : u.config = s.config)
    (ht : u.trunk = s.trunk) (hn : u.notices = s.notices) : Eases s u where
  records := keepsRecords_of_eq (by rw [hp])
  heldTag := .inl (by rw [hc])
  isolate := .inl (by rw [he])
  segment := by simp [SegmentInRange, hc, hp]
  down := by simp [ht]
  up := by simp [ht]
  ordinary := by simp [hn]
  places := (placesTaken_congr (by rw [ht]) (by rw [hc]) (by rw [he])).le

/-- An update of the pool alone. -/
theorem eases_pool {s : State} (p : Pool) (hc : KeepsRecords s { s with pool := p })
    (hk : p.credit ≤ s.pool.credit) : Eases s { s with pool := p } where
  records := hc
  heldTag := .inl rfl
  isolate := .inl rfl
  segment := fun ⟨ha, hs, h⟩ => ⟨ha, hs, hk.trans h⟩
  down := id
  up := id
  ordinary := id
  places := le_rfl

/-- An update of the drop engine that reserves no place. -/
theorem eases_engine (s : State) (e : Engine)
    (h : e.pendingIsolate = s.engine.pendingIsolate ∨ e.pendingIsolate = none) : Eases s { s with engine := e } where
  records := keepsRecords_of_eq rfl
  heldTag := .inl rfl
  isolate := h
  segment := id
  down := id
  up := id
  ordinary := id
  places := by
    unfold placesTaken reservations
    rcases h with h | h <;> simp [h]

theorem eases_modifySlot (i : SlotIx) (f : Slot → Slot)
    (hf : ∀ slot, (f slot).cls = slot.cls ∧ (f slot).tag = slot.tag) (s : State) :
    Eases s (modifySlot i f s) := eases_pool _ (keepsRecords_modifySlot i hf s) le_rfl

theorem eases_completeSlot (i : SlotIx) (status : Status) (detail : Byte) (data : List Word) (s : State) :
    Eases s (completeSlot i status detail data s) where
  records := keepsRecords_completeSlot i status detail data s
  heldTag := .inl (by simp)
  isolate := .inl (by simp)
  segment := by simp [SegmentInRange]
  down := by simp [completeSlot_trunk]
  up := by simp [completeSlot_trunk]
  ordinary := by simp
  places := (placesTaken_completeSlot ..).le

theorem eases_flush (p : Slot → Bool) (status : Status) (s : State) : Eases s (flush p status s) where
  records := keepsRecords_flush p status s
  heldTag := .inl (by simp)
  isolate := .inl (by simp)
  segment := by simp [SegmentInRange]
  down := by simp [flush_trunk]
  up := by simp [flush_trunk]
  ordinary := by simp
  places := (placesTaken_flush ..).le

theorem Flushes.eases {s u : State} (h : Flushes s u) : Eases s u := by
  induction h with
  | quiet q => exact q.eases
  | flush p status s => exact eases_flush p status s
  | trans _ _ ih1 ih2 => exact ih1.trans ih2

/-! ### The transaction's end (R10 to R13, R36, R40, R44) -/

theorem eases_finishHost (i : SlotIx) (result : DropResult) (s : State) : Eases s (finishHost i result s) := by
  unfold finishHost
  split
  · exact .refl s
  · split <;> exact eases_completeSlot ..

theorem eases_jamHost (i : SlotIx) (s : State) : Eases s (jamHost i s) := by
  unfold jamHost
  split
  · exact .refl s
  · split <;> exact eases_completeSlot ..

theorem eases_joinHead (cls : Class) (i : SlotIx) (s : State) : Eases s (joinHead cls i s) := by
  cases cls <;> exact eases_pool _ (keepsRecords_of_eq rfl) le_rfl

theorem eases_returnHost (i : SlotIx) (s : State) : Eases s (returnHost i s) := by
  unfold returnHost
  split
  · exact .refl s
  · next slot hs =>
    split
    · exact eases_completeSlot ..
    · refine Eases.trans (eases_pool _ (keepsRecords_putSlot fun x hx => ?_) le_rfl) (eases_joinHead ..)
      exact ⟨slot, hs, by rw [← Option.some.inj hx], by rw [← Option.some.inj hx]⟩

theorem eases_returnGrant (s : State) : Eases s (returnGrant s) := by
  unfold returnGrant
  split
  · exact .refl s
  · split
    · exact eases_returnHost ..
    · exact eases_of_eq rfl rfl rfl rfl rfl
    · exact eases_of_eq rfl rfl rfl rfl rfl

theorem eases_flushPort (status : Status) (s : State) : Eases s (flushPort status s) :=
  (eases_flush ..).trans ((Quiet.ofCalendar _ _ fun _ => rfl).trans (quiet_emptyProbeList _)).eases

/-- Steps 1 and 2 of isolation take no place and give up the reserved one (R44). -/
theorem eases_isolate (s : State) : Eases s (isolate id s) :=
  (eases_engine s _ (.inr rfl)).trans ((quiet_setLineIndicator ..).eases.trans (eases_flushPort ..))

theorem isolate_eq (answerIsolate : State → State) (s : State) :
    isolate answerIsolate s = answerIsolate (isolate id s) := rfl

/-- The reply of a pending isolate takes the place that was reserved for it. -/
theorem eases_isolateForPending {tag : Tag} {s : State} (h : s.engine.pendingIsolate = some tag) :
    Eases s (isolateForPending tag s) := by
  have hi := eases_isolate s
  refine ⟨hi.records, hi.heldTag, hi.isolate, hi.segment, hi.down, hi.up, hi.ordinary, ?_⟩
  have hfree : placesTaken { s with engine := { s.engine with pendingIsolate := none } } + 1 = placesTaken s := by
    simp [placesTaken, reservations, h]
    omega
  have hflush : placesTaken (isolate id s) ≤ placesTaken { s with engine := { s.engine with pendingIsolate := none } } :=
    ((quiet_setLineIndicator false _).eases.trans (eases_flushPort .isolated _)).places
  rw [isolateForPending, isolate_eq, deferredReply, answer, placesTaken_placeReply, ← hfree]
  exact Nat.succ_le_succ hflush

theorem eases_leaveTransaction (s : State) : Eases s (leaveTransaction s) := by
  unfold leaveTransaction
  split
  · next tag ht => exact eases_isolateForPending ht
  · exact eases_engine s _ (.inl rfl)

theorem eases_deliver (t : Txn) (result : DropResult) (s : State) : Eases s (deliver t result s) := by
  have howner : Eases s (deliverToOwner t result s) := by
    unfold deliverToOwner
    split
    · exact eases_finishHost ..
    · exact (quiet_pollOutcome ..).eases
    · exact (flushes_probeOutcome ..).eases
  exact howner.trans ((flushes_deliverToMonitor ..).eases.trans (eases_leaveTransaction _))

theorem eases_jamTransaction (s : State) : Eases s (jamTransaction s) := by
  unfold jamTransaction
  split
  · exact .refl s
  · split
    · exact eases_jamHost ..
    · exact .refl s
    · exact (quiet_dropProbe ..).eases

theorem eases_enterJammed (s : State) : Eases s (enterJammed s) := by
  have habandon : Eases s (jamAbandon s) := (eases_jamTransaction s).trans (eases_engine _ _ (.inl rfl))
  have hstart : ∀ u, Eases u (jamStarted u) := fun u => eases_engine u _ (.inl rfl)
  rw [enterJammed_eq]
  exact habandon.trans <| (eases_flushPort ..).trans <| (hstart _).trans <|
    ((quiet_raise ..).trans ((quiet_setLineIndicator ..).trans (quiet_bump ..))).eases

theorem eases_leaveTail (s : State) : Eases s (leaveTail s) := by
  refine Eases.trans (quiet_releaseLine s).eases ?_
  unfold leaveTail
  dsimp only
  split
  · next tag ht => exact eases_isolateForPending ht
  · exact eases_engine _ _ (.inl rfl)

/-! ### Grants, entries sent, and the application of a commit -/

theorem eases_enterGuard (t : Txn) (s : State) : Eases s (enterGuard t s) := by
  have hg : Eases s (guardEntered t s) := eases_engine s _ (.inl rfl)
  have hc : Eases (guardEntered t s) (countAttempt t (guardEntered t s)) := by
    unfold countAttempt
    split
    · exact eases_modifySlot _ _ (by intro; exact ⟨rfl, rfl⟩) _
    · exact eases_engine _ _ (.inl rfl)
    · exact eases_engine _ _ (.inl rfl)
  unfold enterGuard
  split
  · refine hg.trans (hc.trans ?_)
    unfold beginAttempt
    dsimp only
    split
    · exact (quiet_bump ..).eases.trans (eases_engine _ _ (.inl rfl))
    · exact eases_engine _ _ (.inl rfl)
  · exact hg

theorem eases_grantHost (i : SlotIx) (s : State) : Eases s (grantHost i s) := by
  unfold grantHost
  split
  · exact .refl s
  · refine Eases.trans ?_ (eases_enterGuard ..)
    exact eases_modifySlot i _ (by intro; exact ⟨rfl, rfl⟩) s

/-- A grant of rank 4 spends bulk credit below the share, or clears it (R8). -/
theorem chooseOrdinary_credit {normal bulk : List SlotIx} {credit share : Nat} {i : SlotIx} {rest : List SlotIx}
    {credit' : Nat} (h : chooseOrdinary normal bulk credit share = some (.normal i rest credit')) :
    credit' = credit ∨ (credit' = credit + 1 ∧ credit < share) := by
  unfold chooseOrdinary at h
  repeat' split at h
  all_goals simp_all

theorem chooseGrant_credit {s : State} {i : SlotIx} {rest : List SlotIx} {credit : Nat}
    (h : chooseGrant s = some (.normal i rest credit)) :
    credit = s.pool.credit ∨ (credit = s.pool.credit + 1 ∧ s.pool.credit < s.config.active.segment.bulkShare) := by
  unfold chooseGrant at h
  split at h
  · cases h
  · cases h
  · cases h
  · exact chooseOrdinary_credit h

theorem eases_decideDrop (s : State) : Eases s (decideDrop s) := by
  unfold decideDrop
  split
  · split
    · exact .refl s
    · next g hg =>
      cases g with
      | urgent i rest =>
        refine Eases.trans ?_ (eases_grantHost i _)
        exact eases_pool _ (keepsRecords_of_eq rfl) le_rfl
      | poll i rest =>
        refine Eases.trans ?_ (eases_enterGuard _ _)
        exact eases_of_eq rfl rfl rfl rfl rfl
      | probe n rest =>
        refine Eases.trans (Eases.trans ?_ (quiet_modifyHealth n _ _).eases) (eases_enterGuard _ _)
        exact eases_of_eq rfl rfl rfl rfl rfl
      | normal i rest credit =>
        refine Eases.trans ?_ (eases_grantHost i _)
        refine ⟨keepsRecords_of_eq rfl, .inl rfl, .inl rfl, fun ⟨ha, hs, hc⟩ => ⟨ha, hs, ?_⟩,
          fun h => h, fun h => h, fun h => h, le_rfl⟩
        obtain ⟨-, -, -, ⟨-, hshare⟩, -, -⟩ := ha
        rcases chooseGrant_credit hg with rfl | ⟨rfl, hlt⟩
        · exact hc
        · exact Nat.le_trans hlt hshare
      | bulk i rest =>
        refine Eases.trans ?_ (eases_grantHost i _)
        exact eases_pool _ (keepsRecords_of_eq rfl) (Nat.zero_le _)
  · exact .refl s

/-- The head of the Upstream Queue leaves it. -/
theorem eases_tail {s : State} {e : UpEntry} {rest : List UpEntry} (h : s.trunk.upstream = e :: rest) :
    Eases s { s with trunk := { s.trunk with upstream := rest } } := by
  refine ⟨keepsRecords_of_eq rfl, .inl rfl, .inl rfl, id, id, id, id, ?_⟩
  simp only [placesTaken, reservations, h]
  exact Nat.add_le_add_right ((List.sublist_cons_self e rest).countP_le) _

theorem eases_freeSlot (i : SlotIx) (s : State) : Eases s (freeSlot i s) :=
  eases_pool _ (keepsRecords_freeSlot i s) le_rfl

theorem eases_discardBroadcastHeads (l : List UpEntry) (s : State) (h : s.trunk.upstream = l) :
    Eases s (discardBroadcastHeads l s) := by
  induction l generalizing s with
  | nil => exact .refl s
  | cons e l ih =>
    unfold discardBroadcastHeads
    split
    · split
      · exact (eases_tail h).trans ((eases_freeSlot ..).trans (ih _ rfl))
      · exact .refl s
    · exact .refl s

theorem eases_upstreamSent (s : State) : Eases s (upstreamSent s) := by
  unfold upstreamSent
  split
  · exact .refl s
  · next e rest h =>
    dsimp only
    split
    · exact (eases_tail h).trans (eases_freeSlot ..)
    · exact eases_tail h

theorem eases_softReset (s : State) : Eases s (softReset s) where
  records i x h := by simp [softReset, Pool.softReset] at h
  heldTag := .inr rfl
  isolate := .inr rfl
  segment := fun ⟨ha, _, _⟩ => ⟨ha, ha, Nat.zero_le _⟩
  down := id
  up := id
  ordinary _ := Nat.zero_le _
  places := Nat.zero_le _

/-- The reply of an applied COMMIT takes its reserved place (R122). -/
theorem placesTaken_commitAnswered {id : Byte} {tag : Tag} {s : State}
    (h : s.config.session = .commitPending id tag) : placesTaken (commitAnswered tag s) = placesTaken s := by
  rw [commitAnswered, deferredReply, answer, placesTaken_placeReply]
  simp [placesTaken, reservations, h, Session.heldTag]
  omega

theorem eases_applyCommit {id : Byte} {tag : Tag} {s : State} (h : s.config.session = .commitPending id tag) :
    Eases s (applyCommit tag s) := by
  have hi : Eases s (installShadow s) :=
    ⟨keepsRecords_of_eq rfl, .inl rfl, .inl rfl, fun ⟨_, hs, hc⟩ => ⟨hs, hs, hc⟩, fun h => h, fun h => h,
      fun h => h, le_rfl⟩
  have hr := hi.trans ((flushes_updateNodes s.config.active _).eases.trans
    (quiet_rebuildMirror s.config.active _).eases)
  have hses : (rebuildMirror s.config.active (updateNodes s.config.active (installShadow s))).config.session =
      .commitPending id tag := by simpa [installShadow] using h
  rw [applyCommit_eq]
  refine hr.trans (Eases.trans ?_ (quiet_raise ..).eases)
  exact ⟨keepsRecords_of_eq (by simp [commitAnswered_keeps]), .inr rfl, .inl (by simp [commitAnswered_keeps]),
    by simp [SegmentInRange, commitAnswered_keeps],
    fun h => h, fun h => h, fun h => h, (placesTaken_commitAnswered hses).le⟩

/-! ### The laws -/

/-- A law that lasts while nothing bounded grows is kept by every step, if it is kept where a place or a slot is taken. -/
theorem easesLaws {P : State → Prop} (he : ∀ {s u}, Eases s u → P s → P u)
    (hbegin : ∀ source s, P (beginReset source s)) (hrelease : ∀ straps s, P (releaseReset straps s))
    (hplace : ∀ r s, placesFull s = false → P s → P (placeReply r s))
    (hadmit : ∀ r s, tagInUse s r.tag = false → hasRoom s r.cls = true → P s → P (admitSlot r s))
    (hpend : ∀ id tag s, placesFull s = false → tagInUse s tag = false → s.config.session.heldTag = none → P s →
      P { s with config := { s.config with session := .commitPending id tag } })
    (hhold : ∀ f s, placesFull s = false → tagInUse s (tagOf f.tag) = false → s.engine.pendingIsolate = none → P s →
      P (holdIsolate f s)) :
    StepLaws P where
  of_quiet q := he q.eases
  at_begin := hbegin
  at_release := hrelease
  of_softReset s := he (eases_softReset s)
  of_placeReply := hplace
  of_decideDrop s := he (eases_decideDrop s)
  of_discardHeads s := he (eases_discardBroadcastHeads _ s rfl)
  of_upstreamSent s := he (eases_upstreamSent s)
  of_admit r s _ ht _ hr := hadmit r s ht hr
  of_abortQueued i slot s _ _ :=
    he (Eases.trans (eases_pool (leaveQueues _ s).pool (keepsRecords_of_eq rfl) le_rfl) (eases_completeSlot ..))
  of_abortActive i slot s _ _ := he (eases_modifySlot i _ (by intro; exact ⟨rfl, rfl⟩) s)
  of_withdraw id tag s hs :=
    he ⟨keepsRecords_of_eq rfl, .inr rfl, .inl rfl, fun h => h, fun h => h, fun h => h, fun h => h,
      (placesTaken_withdrawCommit hs).le⟩
  of_pend := hpend
  of_apply id tag s hs := he (eases_applyCommit hs)
  of_flush p status s := he (eases_flush p status s)
  of_listProbe n s _ _ := he (eases_of_eq rfl rfl rfl rfl rfl)
  of_formDue s := he (eases_of_eq rfl rfl rfl rfl rfl)
  of_dropIsolate f s hr ht h := by
    have hi : ∀ {u}, Eases s u → P (isolate (answerPort f) u) := by
      intro u hu
      have hiu := hu.trans (eases_isolate u)
      refine hplace _ (isolate id u) ?_ (he hiu h)
      have := hiu.places
      simp only [placesFull, decide_eq_false_iff_not, not_le] at hr ⊢
      omega
    unfold ownDropIsolate
    split
    · exact hi (.refl s)
    · exact hi (.refl s)
    · exact hi (eases_returnGrant s)
    · exact hplace _ s hr h
    · split
      · exact hplace _ s hr h
      · next hn => exact hhold f s hr ht (by simpa using hn) h
  of_cancelIsolate tag s hs :=
    he ⟨keepsRecords_of_eq rfl, .inl rfl, .inr rfl, fun h => h, fun h => h, fun h => h, fun h => h,
      (placesTaken_cancelIsolate hs).le⟩
  of_leaveOut e s _ _ _ hi := he (eases_engine s e (.inl hi))
  of_transacting e s _ _ hi := he (eases_engine s e (.inl hi))
  of_touchSlot i f s hf _ := he (eases_modifySlot i f (fun slot => ⟨(hf slot).2.1, (hf slot).1⟩) s)
  of_deliver t result s _ := he (eases_deliver t result s)
  of_jam s _ := he (eases_enterJammed s)
  of_leaveTail s _ _ := he (eases_leaveTail s)

/-! ### The bounded queues (R90, R146, R148, R157) -/

theorem placesTaken_lt_of_not_full {s : State} (h : placesFull s = false) : placesTaken s < 16 :=
  Nat.lt_of_not_le (of_decide_eq_false h)

/-- The places taken as lengths: the entries of the immediate part and the two tags that reserve one (R90). -/
theorem placesTaken_eq (s : State) :
    placesTaken s =
      s.trunk.upstream.countP UpEntry.isImmediate +
        (s.config.session.heldTag.toList.length + s.engine.pendingIsolate.toList.length) := by
  unfold placesTaken reservations
  cases s.config.session.heldTag <;> cases s.engine.pendingIsolate <;> rfl

theorem placesTaken_pend (id : Byte) (tag : Tag) {s : State} (h : s.config.session.heldTag = none) :
    placesTaken { s with config := { s.config with session := .commitPending id tag } } = placesTaken s + 1 := by
  rw [placesTaken_eq, placesTaken_eq, h]
  simp only [Session.heldTag, Option.toList_some, Option.toList_none, List.length_cons, List.length_nil]
  omega

theorem placesTaken_holdIsolate (f : ManageFrame) {s : State} (h : s.engine.pendingIsolate = none) :
    placesTaken (holdIsolate f s) = placesTaken s + 1 := by
  rw [placesTaken_eq, placesTaken_eq, h]
  simp [holdIsolate]
  omega

theorem Eases.capacity {s u : State} (e : Eases s u) : QueuesWithinCapacity s → QueuesWithinCapacity u :=
  fun ⟨hd, hu, ho, hp⟩ => ⟨e.down hd, e.up hu, e.ordinary ho, e.places.trans hp⟩

theorem capacityLaws : StepLaws QueuesWithinCapacity := by
  refine easesLaws Eases.capacity ?_ ?_ ?_ ?_ ?_ ?_
  · exact fun source s => ⟨Nat.zero_le _, Nat.zero_le _, Nat.zero_le _, Nat.zero_le _⟩
  · exact fun straps s => (quiet_raise ..).eases.capacity
      ⟨Nat.zero_le _, Nat.zero_le _, Nat.zero_le _, Nat.zero_le _⟩
  · rintro r s hr ⟨hd, hu, ho, -⟩
    refine ⟨hd, hu, ho, ?_⟩
    rw [placesTaken_placeReply]
    exact placesTaken_lt_of_not_full hr
  · rintro r s - - ⟨hd, hu, ho, hp⟩
    exact ⟨by simpa using hd, by simpa using hu, by simpa using ho,
      (placesTaken_congr (by simp) (by simp) (by simp)).trans_le hp⟩
  · rintro id tag s hr - hn ⟨hd, hu, ho, -⟩
    exact ⟨hd, hu, ho, (placesTaken_pend id tag hn).trans_le (placesTaken_lt_of_not_full hr)⟩
  · rintro f s hr - hn ⟨hd, hu, ho, -⟩
    exact ⟨hd, hu, ho, (placesTaken_holdIsolate f hn).trans_le (placesTaken_lt_of_not_full hr)⟩

/-! ### The slots of NORMAL and BULK requests (R2, R3) -/

theorem ordinarySlots_le_occupied (s : State) : ordinarySlots s ≤ s.pool.slots.toList.countP Option.isSome :=
  List.countP_mono_left fun x _ h => by cases x <;> simp_all

/-- At most one NORMAL or BULK slot more is occupied after an admission, and none after an URGENT one's. -/
theorem ordinarySlots_admitSlot_le (r : Slot) (s : State) :
    ordinarySlots (admitSlot r s) ≤ ordinarySlots s + if r.cls = .urgent then 0 else 1 := by
  cases h : firstFree s with
  | none => rw [admitSlot_of_full h]; omega
  | some i =>
    rw [admitSlot_of_free h]
    simp only [ordinarySlots, bump_keeps, Vector.toList_set]
    rw [List.countP_set (by simp)]
    by_cases hc : r.cls = .urgent <;> simp [hc]

theorem Eases.reserved {s u : State} (e : Eases s u) : UrgentSlotsReserved s → UrgentSlotsReserved u :=
  e.records.ordinarySlots_le.trans

theorem reservedLaws : StepLaws UrgentSlotsReserved := by
  refine easesLaws Eases.reserved ?_ ?_ ?_ ?_ ?_ ?_
  · exact fun source s => by simp [UrgentSlotsReserved, ordinarySlots, beginReset, State.blank]
  · exact fun straps s => by simp [UrgentSlotsReserved, ordinarySlots, releaseReset, State.blank]
  · exact fun r s _ h => h
  · intro r s _ hr h
    have hle := ordinarySlots_admitSlot_le r s
    have hocc := ordinarySlots_le_occupied s
    have hfree := freeSlots_add_occupied s
    unfold UrgentSlotsReserved at h ⊢
    by_cases hc : r.cls = .urgent
    · rw [if_pos hc] at hle
      omega
    · have hroom : 4 < freeSlots s := by
        cases hcls : r.cls with
        | urgent => exact absurd hcls hc
        | normal => rw [hcls] at hr; exact of_decide_eq_true hr
        | bulk => rw [hcls] at hr; exact of_decide_eq_true hr
      rw [if_neg hc] at hle
      omega
  · exact fun id tag s _ _ _ h => h
  · exact fun f s _ _ _ h => h

/-- Settles O55: nothing bounded grows but where a place or a slot is taken, and there the limit is checked first. -/
theorem everyStepKeepsCapacities : Obligations.EveryStepKeepsCapacities :=
  ⟨fun _ _ h hs => capacityLaws.step h hs, fun _ _ h hs => reservedLaws.step h hs⟩

/-! ### The SEGMENT entries and the bulk credit (R8, R110, R111) -/

theorem cleared_inRange : Tables.cleared.segment.inRange := by
  simp [Tables.cleared, SegmentEntry.inRange]

theorem segmentLaws : StepLaws SegmentInRange := by
  refine easesLaws Eases.segment ?_ ?_ ?_ ?_ ?_ ?_
  · exact fun source s => ⟨cleared_inRange, cleared_inRange, Nat.zero_le _⟩
  · exact fun straps s => (quiet_raise ..).eases.segment ⟨cleared_inRange, cleared_inRange, Nat.zero_le _⟩
  · exact fun r s _ h => h
  · rintro r s - - ⟨ha, hs, hc⟩
    exact ⟨by simpa using ha, by simpa using hs, by simpa using hc⟩
  · exact fun id tag s _ _ _ h => h
  · exact fun f s _ _ _ h => h

/-- Settles O59. -/
theorem everyStepKeepsSegmentInRange : Obligations.EveryStepKeepsSegmentInRange :=
  fun _ _ h hs => segmentLaws.step h hs

end Sys2Proof.Machine
end

section
/-! PROOF. The law that the request pool agrees with its queues, the Upstream Queue, the drop engine and the tag map
(R1, R2, R4, R5, R20, R26, R149): a form of it that also describes a slot on its way between two of them, the operations on
that form, and the law of every step. -/

namespace Sys2Proof.Machine

/-! ### A slot in its place -/

/-- A slot is where its record says: in its class queue, in the slot part, or held by the engine; one that is `out` has been
taken from its queue or from the engine and has not been put anywhere else yet. -/
structure SlotPlaced (x : Option Slot) (inQueue : Class → Prop) (inPart held out : Prop) : Prop where
  queue : ∀ cls, inQueue cls ↔ (∃ slot, x = some slot ∧ slot.state = .queued ∧ slot.cls = cls) ∧ ¬ out
  part : inPart ↔ ∃ slot, x = some slot ∧ slot.state = .replying
  engine : held ↔ (∃ slot, x = some slot ∧ (slot.state = .active ∨ slot.state = .abortPending)) ∧ ¬ out
  outcome : ∀ slot, x = some slot → (slot.outcome.isSome = true ↔ slot.state = .replying)
  limbo : out → ¬ inPart

/-- Every slot is in its place but those of `out`, with `held` the slot of the engine's transaction. -/
structure PoolCore (out : Set SlotIx) (held : Option SlotIx) (s : State) : Prop where
  placed : ∀ i : SlotIx,
    SlotPlaced s.pool.slots[i] (fun cls => i ∈ s.pool.queueOf cls) (i ∈ slotPart s) (held = some i) (i ∈ out)
  queues : ∀ cls, (s.pool.queueOf cls).Nodup
  part : (slotPart s).Nodup

/-- A QUEUED slot has not been attempted or sent (R1). -/
def QueuedAreFresh (s : State) : Prop :=
  ∀ i : SlotIx, ∀ slot, s.pool.slots[i] = some slot → slot.state = .queued → slot.attempts = 0 ∧ slot.sentOnce = false

/-- A port in IDLE, JAMMED or ISOLATED has no transaction (R26). -/
def RestHasNoTxn (s : State) : Prop :=
  s.engine.port = .idle ∨ s.engine.port = .jammed ∨ s.engine.port = .isolated → s.engine.txn = none

/-- The slot of a claimant that is a host request. -/
def Claimant.slot? (c : Claimant) : Option SlotIx :=
  match c with
  | .host i => some i
  | .poll _ => none
  | .probe _ => none

/-- The slot of the engine's transaction, if it is a host request's (R26). -/
def heldSlot (s : State) : Option SlotIx :=
  (s.engine.txn.map Txn.claimant).bind Claimant.slot?

theorem heldSlot_eq_some {s : State} {i : SlotIx} :
    heldSlot s = some i ↔ s.engine.txn.map Txn.claimant = some (.host i) := by
  unfold heldSlot
  cases s.engine.txn.map Txn.claimant with
  | none => simp
  | some c => cases c <;> simp [Claimant.slot?]

/-- The parts of the pool's law but the tag map. -/
def PoolPlaced (s : State) : Prop :=
  PoolCore ∅ (heldSlot s) s ∧ QueuedAreFresh s ∧ RestHasNoTxn s

theorem poolConsistent_iff (s : State) : PoolConsistent s ↔ PoolPlaced s ∧ TagsHaveOneHolder s := by
  constructor
  · rintro ⟨⟨hq, hn, ho⟩, ⟨hpn, hp⟩, ⟨ha, hr⟩, ht⟩
    refine ⟨⟨⟨fun i => ⟨fun cls => ?_, hp i, ?_, fun slot hs => (ho i slot hs).2, fun h => h.elim⟩, hn, hpn⟩,
      fun i slot hs => (ho i slot hs).1, hr⟩, ht⟩
    · simpa [slotHolds] using hq cls i
    · simpa [slotHolds, heldSlot_eq_some] using (ha i).symm
  · rintro ⟨⟨⟨hp, hn, hpn⟩, hf, hr⟩, ht⟩
    refine ⟨⟨fun cls i => ?_, hn, fun i slot hs => ⟨hf i slot hs, (hp i).outcome slot hs⟩⟩, ⟨hpn, fun i => (hp i).part⟩,
      ⟨fun i => ?_, hr⟩, ht⟩
    · simpa [slotHolds] using (hp i).queue cls
    · simpa [slotHolds, heldSlot_eq_some] using (hp i).engine.symm

/-! ### Where the parts of the law are the same -/

theorem queueOf_congr {p q : Pool} (hu : p.urgent = q.urgent) (hn : p.normal = q.normal) (hb : p.bulk = q.bulk)
    (cls : Class) : p.queueOf cls = q.queueOf cls := by
  cases cls
  · exact hu
  · exact hn
  · exact hb

/-- The slot part is read from the items of the entries. -/
theorem slotPart_congr {s u : State} (h : u.trunk.upstream.map UpEntry.item = s.trunk.upstream.map UpEntry.item) :
    slotPart u = slotPart s := by
  have hitem : ∀ l : List UpEntry, l.filterMap UpEntry.slot? =
      (l.map UpEntry.item).filterMap (fun x => UpEntry.slot? { item := x, frame := none }) := by
    intro l
    rw [List.filterMap_map]
    rfl
  unfold slotPart
  rw [hitem, hitem, h]

theorem slotPart_enqueue {s u : State} {e : UpEntry} (h : u.trunk.upstream = s.trunk.upstream ++ [e]) :
    slotPart u = slotPart s ++ e.slot?.toList := by
  unfold slotPart
  rw [h, List.filterMap_append]
  cases he : e.slot? <;> simp [he]

@[simp] theorem slotPart_placeReply (r : Reply) (s : State) : slotPart (placeReply r s) = slotPart s :=
  (slotPart_enqueue (s := s) (e := { item := .immediate r, frame := none }) rfl).trans (List.append_nil _)

theorem slotPart_completeSlot {i : SlotIx} {slot : Slot} {s : State} (status : Status) (detail : Byte)
    (data : List Word) (h : s.pool.slots[i] = some slot) :
    slotPart (completeSlot i status detail data s) = slotPart s ++ [i] :=
  slotPart_enqueue (e := .ofSlot i) (by rw [completeSlot_of_some _ _ _ h])

variable {out out' : Set SlotIx} {held held' : Option SlotIx} {s u : State}

theorem PoolCore.congr (h : PoolCore out held s) (hs : u.pool.slots = s.pool.slots)
    (hq : ∀ cls, u.pool.queueOf cls = s.pool.queueOf cls) (hp : slotPart u = slotPart s) : PoolCore out held u where
  placed i := by simpa [hs, hq, hp] using h.placed i
  queues cls := by rw [hq]; exact h.queues cls
  part := by rw [hp]; exact h.part

theorem PoolCore.of_pool_eq (h : PoolCore out held s) (hp : u.pool = s.pool) (hi : slotPart u = slotPart s) :
    PoolCore out held u :=
  h.congr (by rw [hp]) (fun _ => by rw [hp]) hi

/-- An update of one slot and its place keeps every other slot in its place. -/
theorem PoolCore.update (i : SlotIx) (h : PoolCore out held s)
    (hslot : ∀ j : SlotIx, j ≠ i → u.pool.slots[j] = s.pool.slots[j])
    (hqueue : ∀ j : SlotIx, j ≠ i → ∀ cls, j ∈ u.pool.queueOf cls ↔ j ∈ s.pool.queueOf cls)
    (hpart : ∀ j : SlotIx, j ≠ i → (j ∈ slotPart u ↔ j ∈ slotPart s))
    (hheld : ∀ j : SlotIx, j ≠ i → (held' = some j ↔ held = some j))
    (hout : ∀ j : SlotIx, j ≠ i → (j ∈ out' ↔ j ∈ out))
    (hi : SlotPlaced u.pool.slots[i] (fun cls => i ∈ u.pool.queueOf cls) (i ∈ slotPart u) (held' = some i) (i ∈ out'))
    (hn : ∀ cls, (u.pool.queueOf cls).Nodup) (hpn : (slotPart u).Nodup) : PoolCore out' held' u := by
  refine ⟨fun j => ?_, hn, hpn⟩
  by_cases hj : j = i
  · exact hj ▸ hi
  · have := h.placed j
    simpa only [hslot j hj, hqueue j hj, hpart j hj, hheld j hj, hout j hj] using this

/-! ### Slots taken from a queue or from the engine, and completed -/

/-- Slots that leave their queues are out. -/
theorem PoolCore.leaveQueues (p : SlotIx → Bool) (h : PoolCore ∅ held s) :
    PoolCore {i | p i = true ∧ ∃ slot, s.pool.slots[i] = some slot ∧ slot.state = .queued} held
      (Machine.leaveQueues p s) := by
  have hq : ∀ cls, (Machine.leaveQueues p s).pool.queueOf cls = (s.pool.queueOf cls).filter (fun i => !p i) := by
    intro cls
    cases cls <;> rfl
  refine ⟨fun i => ?_, fun cls => hq cls ▸ (h.queues cls).filter _, h.part⟩
  obtain ⟨hqueue, hpart, hengine, houtcome, -⟩ := h.placed i
  refine ⟨fun cls => ?_, hpart, ?_, houtcome, ?_⟩
  · simp only [hq, List.mem_filter, hqueue, Set.mem_empty_iff_false, not_false_eq_true, and_true, Set.mem_ofPred_eq,
      leaveQueues_queues, Bool.not_eq_true']
    constructor
    · rintro ⟨hs, hp⟩
      exact ⟨hs, by simp [hp]⟩
    · rintro ⟨⟨slot, hs, hqd, hc⟩, hp⟩
      exact ⟨⟨slot, hs, hqd, hc⟩, by simpa [-Fin.getElem_fin, hs, hqd] using hp⟩
  · refine hengine.trans (and_congr_right ?_)
    rintro ⟨slot, hs, ha⟩
    have hnq : slot.state ≠ .queued := by rcases ha with ha | ha <;> simp [ha]
    simp [-Fin.getElem_fin, hs, hnq]
  · rintro ⟨-, slot, hs, hqd⟩ hmem
    obtain ⟨x, hx, hr⟩ := hpart.1 hmem
    rw [hs] at hx
    rw [← Option.some.inj hx, hqd] at hr
    cases hr

/-- The engine's slot is out once its transaction is over. -/
theorem PoolCore.release {i : SlotIx} (h : PoolCore ∅ (some i) s) : PoolCore {i} none s := by
  obtain ⟨hqueue, hpart, hengine, houtcome, -⟩ := h.placed i
  obtain ⟨⟨slot, hs, ha⟩, -⟩ := hengine.1 rfl
  have hnq : slot.state ≠ .queued := by rcases ha with ha | ha <;> simp [ha]
  have hnr : slot.state ≠ .replying := by rcases ha with ha | ha <;> simp [ha]
  refine h.update i (fun _ _ => rfl) (fun _ _ _ => .rfl) (fun _ _ => .rfl) (fun j hj => ?_) (fun j hj => ?_) ?_ h.queues
    h.part
  · simpa using Ne.symm hj
  · simpa using hj
  · refine ⟨fun cls => (hqueue cls).trans ?_, hpart, by simp, houtcome, fun _ hm => ?_⟩
    · simp [-Fin.getElem_fin, hs, hnq]
    · obtain ⟨x, hx, hr⟩ := hpart.1 hm
      rw [hs] at hx
      exact hnr (Option.some.inj hx ▸ hr)

/-- A slot that is out and completes is in the slot part (R20). -/
theorem PoolCore.complete {i : SlotIx} (status : Status) (detail : Byte) (data : List Word) (h : PoolCore out held s)
    (hi : i ∈ out) : PoolCore (out \ {i}) held (completeSlot i status detail data s) := by
  obtain ⟨hqueue, hpart, hengine, -, hlimbo⟩ := h.placed i
  have hout : ∀ j, j ≠ i → (j ∈ out \ {i} ↔ j ∈ out) := fun j hj => by simp [hj]
  cases hs : s.pool.slots[i] with
  | none =>
    rw [completeSlot_of_none _ _ _ hs]
    refine h.update i (fun _ _ => rfl) (fun _ _ _ => .rfl) (fun _ _ => .rfl) (fun _ _ => .rfl) hout ?_ h.queues h.part
    rw [hs] at hqueue hpart hengine ⊢
    exact ⟨by simpa using hqueue, hpart, by simpa using hengine, by simp, by simp⟩
  | some slot =>
    have hq : ∀ cls, (completeSlot i status detail data s).pool.queueOf cls = s.pool.queueOf cls :=
      queueOf_congr (by simp) (by simp) (by simp)
    have hp := slotPart_completeSlot status detail data hs
    refine h.update i (fun j hj => ?_) (fun j hj cls => by rw [hq]) (fun j hj => by simp [hp, hj]) (fun _ _ => .rfl) hout
      ?_ (fun cls => hq cls ▸ h.queues cls) ?_
    · rw [completeSlot_slots, if_neg (Ne.symm hj)]
    · rw [completeSlot_slots, if_pos rfl, hs, hp]
      refine ⟨fun cls => ?_, ?_, ?_, ?_, by simp⟩
      · rw [hq, hqueue]
        simp [hi, Slot.finished]
      · simp [Slot.finished]
      · rw [hengine]
        simp [hi, Slot.finished]
      · simp [Slot.finished]
    · rw [hp]
      exact h.part.append (List.nodup_singleton i) (by simpa using hlimbo hi)

theorem PoolCore.completeAll (status : Status) {l : List SlotIx} (h : PoolCore out held s) (hl : l.Nodup)
    (hi : ∀ i ∈ l, i ∈ out) : PoolCore (out \ {i | i ∈ l}) held (Machine.completeAll status l s) := by
  induction l generalizing s out with
  | nil => simpa [Machine.completeAll] using h
  | cons i l ih =>
    obtain ⟨hnot, hl⟩ := List.nodup_cons.1 hl
    have hstep := ih (h.complete status 0#8 [] (hi i List.mem_cons_self)) hl fun j hj =>
      ⟨hi j (List.mem_cons_of_mem i hj), fun e => hnot (e ▸ hj)⟩
    have hset : (out \ {i}) \ {j | j ∈ l} = out \ {j | j ∈ i :: l} := by
      ext j
      simp [and_assoc]
    exact hset ▸ hstep

theorem PoolCore.mem_queueOrder (h : PoolCore ∅ held s) (i : SlotIx) :
    i ∈ queueOrder s.pool ↔ ∃ slot, s.pool.slots[i] = some slot ∧ slot.state = .queued := by
  have hq := (h.placed i).queue
  simp only [Set.mem_empty_iff_false, not_false_eq_true, and_true] at hq
  have hu := hq .urgent
  have hn := hq .normal
  have hb := hq .bulk
  simp only [Pool.queueOf] at hu hn hb
  simp only [queueOrder, List.mem_append, hu, hn, hb]
  constructor
  · rintro ((⟨x, hx, hs, -⟩ | ⟨x, hx, hs, -⟩) | ⟨x, hx, hs, -⟩) <;> exact ⟨x, hx, hs⟩
  · rintro ⟨x, hx, hs⟩
    cases hc : x.cls
    · exact .inl (.inl ⟨x, hx, hs, hc⟩)
    · exact .inl (.inr ⟨x, hx, hs, hc⟩)
    · exact .inr ⟨x, hx, hs, hc⟩

/-- No slot is in two class queues. -/
theorem PoolCore.queueOrder_nodup (h : PoolCore ∅ held s) : (queueOrder s.pool).Nodup := by
  have hdisj : ∀ c d : Class, c ≠ d → (s.pool.queueOf c).Disjoint (s.pool.queueOf d) := by
    intro c d hcd i hc hd
    obtain ⟨⟨x, hx, -, rfl⟩, -⟩ := ((h.placed i).queue c).1 hc
    obtain ⟨⟨y, hy, -, rfl⟩, -⟩ := ((h.placed i).queue d).1 hd
    rw [hx] at hy
    exact hcd (by rw [Option.some.inj hy])
  refine ((h.queues .urgent).append (h.queues .normal) (hdisj _ _ (by simp))).append (h.queues .bulk) ?_
  exact List.disjoint_append_left.2 ⟨hdisj .urgent .bulk (by simp), hdisj .normal .bulk (by simp)⟩

theorem PoolCore.flush (p : Slot → Bool) (status : Status) (h : PoolCore ∅ held s) :
    PoolCore ∅ held (Machine.flush p status s) := by
  have hmem : ∀ i, i ∈ flushScope p s ↔
      (s.pool.slots[i]).all p = true ∧ ∃ slot, s.pool.slots[i] = some slot ∧ slot.state = .queued := by
    intro i
    rw [flushScope_mem, h.mem_queueOrder]
    constructor
    · rintro ⟨⟨x, hx, hs⟩, hp⟩
      exact ⟨by simpa [-Fin.getElem_fin, hx] using hp, x, hx, hs⟩
    · rintro ⟨hp, x, hx, hs⟩
      exact ⟨⟨x, hx, hs⟩, by simpa [-Fin.getElem_fin, hx] using hp⟩
  have hdone := (h.leaveQueues fun i => (s.pool.slots[i]).all p).completeAll status (h.queueOrder_nodup.filter _)
    fun i hi => (hmem i).1 hi
  have hempty : {i : SlotIx | (s.pool.slots[i]).all p = true ∧ ∃ slot, s.pool.slots[i] = some slot ∧
      slot.state = .queued} \ {i | i ∈ flushScope p s} = ∅ := by
    ext i
    simp only [Set.mem_sdiff, Set.mem_ofPred_eq, hmem, and_not_self, Set.mem_empty_iff_false]
  rw [flush_eq_completeAll]
  exact hempty ▸ hdone

end Sys2Proof.Machine
end

section
/-! PROOF. Every step keeps the pool in agreement with its queues, the Upstream Queue, the drop engine and the tag map
(R1, R2, R4, R5, R10, R20, R26, R149). -/

namespace Sys2Proof.Machine

variable {out out' : Set SlotIx} {held held' : Option SlotIx} {s u : State}

/-! ### One slot written -/

@[simp] theorem putSlot_queueOf (i : SlotIx) (x : Option Slot) (s : State) (cls : Class) :
    (putSlot i x s).pool.queueOf cls = s.pool.queueOf cls := by
  cases cls <;> rfl

/-- A slot written in its place keeps the others in theirs. -/
theorem PoolCore.putSlot {i : SlotIx} {x : Option Slot} (h : PoolCore out held s)
    (hheld : ∀ j : SlotIx, j ≠ i → (held' = some j ↔ held = some j)) (hout : ∀ j : SlotIx, j ≠ i → (j ∈ out' ↔ j ∈ out))
    (hi : SlotPlaced x (fun cls => i ∈ s.pool.queueOf cls) (i ∈ slotPart s) (held' = some i) (i ∈ out')) :
    PoolCore out' held' (putSlot i x s) := by
  refine h.update i (fun j hj => ?_) (fun _ _ cls => by rw [putSlot_queueOf]) (fun _ _ => .rfl) hheld hout ?_
    (fun cls => by rw [putSlot_queueOf]; exact h.queues cls) h.part
  · rw [putSlot_slots, if_neg (Ne.symm hj)]
  · simp only [putSlot_slots, if_true, putSlot_queueOf]
    exact hi

/-- A slot that is out is not REPLYING. -/
theorem PoolCore.not_replying {i : SlotIx} {slot : Slot} (h : PoolCore out held s) (hs : s.pool.slots[i] = some slot)
    (hi : i ∈ out) : slot.state ≠ .replying := fun hr => (h.placed i).limbo hi ((h.placed i).part.2 ⟨slot, hs, hr⟩)

/-- A slot that is out and becomes ACTIVE is the engine's (R9). -/
theorem PoolCore.activate {i : SlotIx} {slot : Slot} (h : PoolCore {i} none s) (hs : s.pool.slots[i] = some slot) :
    PoolCore ∅ (some i) (modifySlot i (fun slot => { slot with state := .active }) s) := by
  have hnot := h.not_replying hs rfl
  rw [modifySlot_of_some _ hs]
  refine h.putSlot (fun j hj => ?_) (fun j hj => ?_) ⟨fun cls => ?_, ?_, ?_, ?_, by simp⟩
  · simpa using Ne.symm hj
  · simpa using hj
  · exact ((h.placed i).queue cls).trans (by simp)
  · exact (h.placed i).part.trans (by simp [-Fin.getElem_fin, hs, hnot])
  · simp
  · rintro _ ⟨⟩
    simpa [hnot] using (h.placed i).outcome slot hs

/-- An ACTIVE slot that becomes ABORT_PENDING is the engine's still (R102). -/
theorem PoolCore.abortActive {i : SlotIx} {slot : Slot} (h : PoolCore ∅ held s) (hs : s.pool.slots[i] = some slot)
    (ha : slot.state = .active) :
    PoolCore ∅ held (modifySlot i (fun slot => { slot with state := .abortPending }) s) := by
  rw [modifySlot_of_some _ hs]
  refine h.putSlot (fun _ _ => .rfl) (fun _ _ => .rfl) ⟨fun cls => ?_, ?_, ?_, ?_, by simp⟩
  · exact ((h.placed i).queue cls).trans (by simp [-Fin.getElem_fin, hs, ha])
  · exact (h.placed i).part.trans (by simp [-Fin.getElem_fin, hs, ha])
  · exact (h.placed i).engine.trans (by simp [-Fin.getElem_fin, hs, ha])
  · rintro _ ⟨⟩
    simpa [ha] using (h.placed i).outcome slot hs

/-- A record touched in what the pool's law does not read keeps the slot in its place. -/
theorem PoolCore.touch {f : Slot → Slot} (hf : SlotTouch f) (i : SlotIx) (h : PoolCore out held s) :
    PoolCore out held (modifySlot i f s) := by
  obtain ⟨hqueue, hpart, hengine, houtcome, hlimbo⟩ := h.placed i
  have hstate : ∀ slot, (f slot).state = slot.state := fun slot => (hf slot).2.2.1
  have hcls : ∀ slot, (f slot).cls = slot.cls := fun slot => (hf slot).2.1
  refine h.putSlot (fun _ _ => .rfl) (fun _ _ => .rfl) ?_
  cases hs : s.pool.slots[i] with
  | none =>
    have hi := h.placed i
    rw [hs] at hi
    exact hi
  | some slot =>
    rw [hs] at hqueue hpart hengine
    refine ⟨fun cls => ?_, ?_, ?_, ?_, hlimbo⟩
    · simpa [hstate, hcls] using hqueue cls
    · simpa [hstate] using hpart
    · simpa [hstate] using hengine
    · rintro _ ⟨⟩
      rw [(hf slot).2.2.2, hstate]
      exact houtcome slot hs

/-! ### The ends of the queues -/

/-- The head of a class queue is occupied. -/
theorem PoolCore.head_occupied {cls : Class} {i : SlotIx} {rest : List SlotIx} (h : PoolCore out held s)
    (hq : s.pool.queueOf cls = i :: rest) : ∃ slot, s.pool.slots[i] = some slot ∧ slot.state = .queued ∧ slot.cls = cls :=
  (((h.placed i).queue cls).1 (by rw [hq]; exact List.mem_cons_self)).1

/-- The head of a class queue is out once it has left (R9). -/
theorem PoolCore.leaveHead {cls : Class} {i : SlotIx} {rest : List SlotIx} (h : PoolCore ∅ none s)
    (hq : s.pool.queueOf cls = i :: rest) (hs : u.pool.slots = s.pool.slots) (hu : u.pool.queueOf cls = rest)
    (hother : ∀ d, d ≠ cls → u.pool.queueOf d = s.pool.queueOf d) (hp : slotPart u = slotPart s) :
    PoolCore {i} none u := by
  obtain ⟨hqueue, hpart, -, houtcome, -⟩ := h.placed i
  obtain ⟨slot, hslot, hqd, hc⟩ := h.head_occupied hq
  have hnodup := h.queues cls
  rw [hq, List.nodup_cons] at hnodup
  have hnot : ∀ d, i ∉ u.pool.queueOf d ∧ (u.pool.queueOf d).Nodup := by
    intro d
    by_cases hd : d = cls
    · rw [hd, hu]; exact hnodup
    · rw [hother d hd, hqueue]
      refine ⟨?_, h.queues d⟩
      rintro ⟨⟨x, hx, -, hxc⟩, -⟩
      rw [hslot] at hx
      exact hd (by rw [← hxc, ← hc, Option.some.inj hx])
  refine h.update i (fun j _ => by rw [hs]) (fun j hj d => ?_) (fun j _ => by rw [hp]) (fun _ _ => .rfl)
    (fun j hj => by simpa using hj) ?_ (fun d => (hnot d).2) (hp ▸ h.part)
  · by_cases hd : d = cls
    · rw [hd, hu, hq, List.mem_cons, or_iff_right hj]
    · rw [hother d hd]
  · rw [hs, hp]
    refine ⟨fun d => by simp [(hnot d).1], hpart, by simp, houtcome, fun _ hm => ?_⟩
    obtain ⟨x, hx, hr⟩ := hpart.1 hm
    rw [hslot] at hx
    rw [← Option.some.inj hx, hqd] at hr
    cases hr

@[simp] theorem joinHead_queueOf (cls d : Class) (i : SlotIx) (s : State) :
    (joinHead cls i s).pool.queueOf d = if d = cls then i :: s.pool.queueOf d else s.pool.queueOf d := by
  cases cls <;> cases d <;> rfl

@[simp] theorem joinHead_slots (cls : Class) (i : SlotIx) (s : State) :
    (joinHead cls i s).pool.slots = s.pool.slots ∧ slotPart (joinHead cls i s) = slotPart s := by
  cases cls <;> exact ⟨rfl, rfl⟩

/-- The grant of a host slot given back leaves every slot in its place (R10). -/
theorem PoolCore.returnHost {i : SlotIx} {slot : Slot} (h : PoolCore {i} none s) (hs : s.pool.slots[i] = some slot) :
    PoolCore ∅ none (returnHost i s) := by
  have hempty : ({i} : Set SlotIx) \ {i} = ∅ := Set.sdiff_self
  have hnot := h.not_replying hs rfl
  have hleft : ∀ cls, i ∉ s.pool.queueOf cls := fun cls hm => (((h.placed i).queue cls).1 hm).2 rfl
  unfold Machine.returnHost
  rw [hs]
  dsimp only
  split
  · exact hempty ▸ h.complete _ _ _ rfl
  · refine h.update i (fun j hj => ?_) (fun j hj cls => ?_) (fun j _ => ?_) (fun _ _ => .rfl) (fun j hj => ?_) ?_
      (fun cls => ?_) ?_
    · simp only [joinHead_slots, putSlot_slots, if_neg (Ne.symm hj)]
    · rw [joinHead_queueOf, putSlot_queueOf]
      split
      · simp [hj]
      · rfl
    · exact iff_of_eq (by rw [(joinHead_slots ..).2]; rfl)
    · simpa using hj
    · have hpart : i ∉ slotPart s := (h.placed i).limbo rfl
      simp only [joinHead_slots, putSlot_slots, if_true, joinHead_queueOf, putSlot_queueOf]
      refine ⟨fun cls => ?_, ?_, by simp, ?_, by simp⟩
      · by_cases hc : cls = slot.cls
        · simp [hc]
        · simp [hc, hleft, Ne.symm hc]
      · exact iff_of_false hpart (by simp)
      · rintro _ ⟨⟩
        simpa [hnot] using (h.placed i).outcome slot hs
    · rw [joinHead_queueOf, putSlot_queueOf]
      split
      · exact List.nodup_cons.2 ⟨hleft cls, h.queues cls⟩
      · exact h.queues cls
    · rw [(joinHead_slots ..).2]
      exact h.part

/-- A fresh record admitted is in its place (R3). -/
theorem PoolCore.admitSlot {r : Slot} (hr : r.isFresh) (h : PoolCore ∅ held s) : PoolCore ∅ held (Machine.admitSlot r s) := by
  obtain ⟨hstate, -, -, hnone⟩ := hr
  cases hi : firstFree s with
  | none => rw [admitSlot_of_full hi]; exact h
  | some i =>
    have hfree := firstFree_free hi
    obtain ⟨hqueue, hpart, hengine, -, -⟩ := h.placed i
    rw [hfree] at hqueue hpart hengine
    have hleft : ∀ cls, i ∉ s.pool.queueOf cls := fun cls => by simp [hqueue]
    have hslots : ∀ j : SlotIx, (Machine.admitSlot r s).pool.slots[j] = if i = j then some r else s.pool.slots[j] := by
      intro j
      rw [admitSlot_of_free hi, ← putSlot_slots]
      rfl
    have hq : ∀ cls, (Machine.admitSlot r s).pool.queueOf cls =
        if r.cls = cls then s.pool.queueOf cls ++ [i] else s.pool.queueOf cls := by
      intro cls
      rw [admitSlot_of_free hi]
      cases cls <;> rfl
    have hp : slotPart (Machine.admitSlot r s) = slotPart s := by
      rw [admitSlot_of_free hi]
      rfl
    refine h.update i (fun j hj => ?_) (fun j hj cls => ?_) (fun j _ => by rw [hp]) (fun _ _ => .rfl) (fun _ _ => .rfl) ?_
      (fun cls => ?_) (hp ▸ h.part)
    · rw [hslots, if_neg (Ne.symm hj)]
    · rw [hq]
      split <;> simp [hj]
    · rw [hslots, if_pos rfl, hp]
      refine ⟨fun cls => ?_, hpart.trans (by simp [hstate]), hengine.trans (by simp [hstate]), ?_, by simp⟩
      · rw [hq]
        by_cases hc : r.cls = cls <;> simp [hc, hleft, hstate]
      · rintro _ ⟨⟩
        simp [hnone, hstate]
    · rw [hq]
      split
      · exact (h.queues cls).append (List.nodup_singleton i) (by simpa using hleft cls)
      · exact h.queues cls

/-- The slot whose entry heads the Upstream Queue is freed with it (R20). -/
theorem PoolCore.freeHead {i : SlotIx} {e : UpEntry} {rest : List UpEntry} (h : PoolCore ∅ held s)
    (hu : s.trunk.upstream = e :: rest) (he : e.item = .slot i) :
    PoolCore ∅ held (freeSlot i { s with trunk := { s.trunk with upstream := rest } }) := by
  have hhead : slotPart s = i :: slotPart { s with trunk := { s.trunk with upstream := rest } } := by
    simp [slotPart, hu, UpEntry.slot?, he]
  obtain ⟨hqueue, hpart, hengine, -, -⟩ := h.placed i
  obtain ⟨slot, hs, hr⟩ := hpart.1 (hhead ▸ List.mem_cons_self)
  have hnodup := h.part
  rw [hhead, List.nodup_cons] at hnodup
  refine h.update i (fun j hj => ?_) (fun j _ cls => ?_) (fun j hj => ?_) (fun _ _ => .rfl) (fun _ _ => .rfl) ?_
    (fun cls => ?_) hnodup.2
  · rw [freeSlot, putSlot_slots, if_neg (Ne.symm hj)]
  · rw [freeSlot, putSlot_queueOf]
  · rw [hhead, List.mem_cons, or_iff_right hj]
    exact .rfl
  · rw [freeSlot, putSlot_slots, if_pos rfl]
    refine ⟨fun cls => ?_, iff_of_false hnodup.1 (by simp), ?_, by simp, by simp⟩
    · rw [putSlot_queueOf]
      exact (hqueue cls).trans (by simp [-Fin.getElem_fin, hs, hr])
    · exact hengine.trans (by simp [-Fin.getElem_fin, hs, hr])
  · rw [freeSlot, putSlot_queueOf]
    exact h.queues cls

end Sys2Proof.Machine
end

section
/-! PROOF. Every step keeps the pool in agreement with its queues, the Upstream Queue, the drop engine and the tag map:
the operations, the laws, and what follows for the count of active slots and of slot entries (R2, R4, R20, R26, R149). -/

namespace Sys2Proof.Machine

variable {held : Option SlotIx} {s u : State}

/-! ### The engine's slot and the fresh records -/

theorem heldSlot_congr (h : u.engine.txn.map Txn.claimant = s.engine.txn.map Txn.claimant) :
    heldSlot u = heldSlot s := by
  unfold heldSlot
  rw [h]

theorem heldSlot_of_none (h : s.engine.txn = none) : heldSlot s = none := by
  simp [heldSlot, h]

theorem QueuedAreFresh.of_slots (h : QueuedAreFresh s) (hs : u.pool.slots = s.pool.slots) : QueuedAreFresh u :=
  fun i slot hi => h i slot (by rw [← hs]; exact hi)

/-- A slot written keeps the QUEUED records fresh if the record written is fresh or not QUEUED. -/
theorem QueuedAreFresh.putSlot {x : Option Slot} (h : QueuedAreFresh s) (i : SlotIx)
    (hx : ∀ slot, x = some slot → slot.state = .queued → slot.attempts = 0 ∧ slot.sentOnce = false) :
    QueuedAreFresh (putSlot i x s) := by
  intro j slot hj
  rw [putSlot_slots] at hj
  split at hj
  · exact hx slot hj
  · exact h j slot hj

theorem QueuedAreFresh.completeSlot (h : QueuedAreFresh s) (i : SlotIx) (status : Status) (detail : Byte)
    (data : List Word) : QueuedAreFresh (completeSlot i status detail data s) := by
  intro j slot hj
  rw [completeSlot_slots] at hj
  split at hj
  · obtain ⟨x, -, rfl⟩ := Option.map_eq_some_iff.1 hj
    simp [Slot.finished]
  · exact h j slot hj

theorem QueuedAreFresh.flush (h : QueuedAreFresh s) (p : Slot → Bool) (status : Status) :
    QueuedAreFresh (flush p status s) := by
  intro j slot hj
  rw [flush_slots] at hj
  split at hj
  · obtain ⟨x, -, rfl⟩ := Option.map_eq_some_iff.1 hj
    simp [Slot.finished]
  · exact h j slot hj

/-- With empty queues no slot is QUEUED, so none is QUEUED and attempted. -/
theorem PoolCore.fresh_of_clear (h : PoolCore ∅ held s) (hc : ClaimsClear s) : QueuedAreFresh s := by
  intro i slot hs hq
  obtain ⟨hu, hn, hb, -, -⟩ := hc
  have hmem := (h.mem_queueOrder i).2 ⟨slot, hs, hq⟩
  simp [queueOrder, hu, hn, hb] at hmem

theorem PoolCore.of_quiet (h : PoolCore ∅ held s) (q : Quiet s u) : PoolCore ∅ held u :=
  h.of_pool_eq q.pool (slotPart_congr q.items)

/-! ### No slot is the engine's -/

/-- Every slot is in its place, and none is the engine's. -/
def PoolFree (s : State) : Prop :=
  PoolCore ∅ none s ∧ QueuedAreFresh s

theorem PoolFree.of_flushes (f : Flushes s u) (h : PoolFree s) : PoolFree u :=
  f.keeps (fun q h => ⟨h.1.of_quiet q, h.2.of_slots (by rw [q.pool])⟩)
    (fun p status _ h => ⟨h.1.flush p status, h.2.flush p status⟩) h

theorem PoolFree.of_quiet (q : Quiet s u) (h : PoolFree s) : PoolFree u := h.of_flushes (.quiet q)

/-- A free pool is placed where the engine has no transaction. -/
theorem PoolFree.placed (h : PoolFree s) (hp : u.pool = s.pool) (hi : slotPart u = slotPart s)
    (ht : u.engine.txn = none) : PoolPlaced u :=
  ⟨by rw [heldSlot_of_none ht]; exact h.1.of_pool_eq hp hi, h.2.of_slots (by rw [hp]), fun _ => ht⟩

/-! ### The pool placed, and what is the engine's -/

namespace PoolPlaced

theorem free (h : PoolPlaced s) (hh : heldSlot s = none) : PoolFree s := ⟨hh ▸ h.1, h.2.1⟩

theorem free_at_rest (h : PoolPlaced s)
    (hp : s.engine.port = .idle ∨ s.engine.port = .jammed ∨ s.engine.port = .isolated) : PoolFree s :=
  h.free (heldSlot_of_none (h.2.2 hp))

theorem of_eq (h : PoolPlaced s) (hp : u.pool = s.pool) (hi : slotPart u = slotPart s)
    (hport : u.engine.port = s.engine.port) (ht : u.engine.txn = s.engine.txn) : PoolPlaced u :=
  ⟨by rw [heldSlot_congr (s := s) (by rw [ht])]; exact h.1.of_pool_eq hp hi, h.2.1.of_slots (by rw [hp]),
    by unfold RestHasNoTxn; rw [hport, ht]; exact h.2.2⟩

theorem of_quiet (q : Quiet s u) (h : PoolPlaced s) : PoolPlaced u := by
  refine ⟨by rw [heldSlot_congr q.claimant]; exact h.1.of_quiet q, h.2.1.of_slots (by rw [q.pool]), fun hp => ?_⟩
  have ht := h.2.2 (q.port ▸ hp)
  simpa [ht] using q.claimant

theorem flush (p : Slot → Bool) (status : Status) (h : PoolPlaced s) : PoolPlaced (flush p status s) := by
  refine ⟨?_, h.2.1.flush p status, ?_⟩
  · rw [heldSlot_congr (s := s) (by simp)]
    exact h.1.flush p status
  · simpa [RestHasNoTxn] using h.2.2

theorem of_flushes (f : Flushes s u) (h : PoolPlaced s) : PoolPlaced u :=
  f.keeps of_quiet (fun p status _ => flush p status) h

/-- The engine's slot is occupied. -/
theorem held_occupied {i : SlotIx} (h : PoolPlaced s) (hh : heldSlot s = some i) :
    ∃ slot, s.pool.slots[i] = some slot ∧ (slot.state = .active ∨ slot.state = .abortPending) :=
  ((h.1.placed i).engine.1 hh).1

/-- A host transaction that ends with its slot's completion leaves none the engine's (R12, R13). -/
theorem complete_held {i : SlotIx} (status : Status) (detail : Byte) (data : List Word) (h : PoolPlaced s)
    (hh : heldSlot s = some i) : PoolFree (completeSlot i status detail data s) := by
  have hempty : ({i} : Set SlotIx) \ {i} = ∅ := Set.sdiff_self
  have hcore : PoolCore {i} none s := (hh ▸ h.1 : PoolCore ∅ (some i) s).release
  exact ⟨hempty ▸ hcore.complete status detail data rfl, h.2.1.completeSlot i status detail data⟩

end PoolPlaced

/-! ### The transaction's end (R10 to R13, R36, R40, R44) -/

/-- A final outcome completes the host's slot with some outcome (R12, R13). -/
theorem finishHost_eq_completeSlot (i : SlotIx) (result : DropResult) (s : State) :
    ∃ status detail data, finishHost i result s = completeSlot i status detail data s := by
  unfold finishHost
  split
  · next hs => exact ⟨.ok, 0#8, [], (completeSlot_of_none _ _ _ hs).symm⟩
  · split <;> exact ⟨_, _, _, rfl⟩

theorem jamHost_eq_completeSlot (i : SlotIx) (s : State) :
    ∃ status detail data, jamHost i s = completeSlot i status detail data s := by
  unfold jamHost
  split
  · next hs => exact ⟨.ok, 0#8, [], (completeSlot_of_none _ _ _ hs).symm⟩
  · split <;> exact ⟨_, _, _, rfl⟩

theorem heldSlot_of_txn {t : Txn} (ht : s.engine.txn = some t) : heldSlot s = t.claimant.slot? := by
  simp [heldSlot, ht]

theorem poolFree_deliverToOwner {t : Txn} (result : DropResult) (ht : s.engine.txn = some t) (h : PoolPlaced s) :
    PoolFree (deliverToOwner t result s) := by
  have hh := heldSlot_of_txn ht
  unfold deliverToOwner
  split
  · next i hi =>
    obtain ⟨status, detail, data, he⟩ := finishHost_eq_completeSlot i result s
    rw [he]
    exact h.complete_held _ _ _ (by rw [hh, hi]; rfl)
  · next i hi => exact (h.free (by rw [hh, hi]; rfl)).of_quiet (quiet_pollOutcome ..)
  · next n hn => exact (h.free (by rw [hh, hn]; rfl)).of_flushes (flushes_probeOutcome ..)

theorem poolFree_jamTransaction (h : PoolPlaced s) : PoolFree (jamTransaction s) := by
  unfold jamTransaction
  split
  · next ht => exact h.free (heldSlot_of_none ht)
  · next t ht =>
    have hh := heldSlot_of_txn ht
    split
    · next i hi =>
      obtain ⟨status, detail, data, he⟩ := jamHost_eq_completeSlot i s
      rw [he]
      exact h.complete_held _ _ _ (by rw [hh, hi]; rfl)
    · next i hi => exact h.free (by rw [hh, hi]; rfl)
    · next n hn => exact (h.free (by rw [hh, hn]; rfl)).of_quiet (quiet_dropProbe ..)

/-- A grant given back leaves no slot the engine's; its record may have been attempted (R10). -/
theorem poolCore_returnGrant (h : PoolPlaced s) : PoolCore ∅ none (returnGrant s) := by
  unfold returnGrant
  split
  · next ht => exact (h.free (heldSlot_of_none ht)).1
  · next t ht =>
    have hh := heldSlot_of_txn ht
    split
    · next i hi =>
      have hheld : heldSlot s = some i := by rw [hh, hi]; rfl
      obtain ⟨slot, hs, -⟩ := h.held_occupied hheld
      exact (hheld ▸ h.1 : PoolCore ∅ (some i) s).release.returnHost hs
    · next i hi => exact (h.free (by rw [hh, hi]; rfl)).1.of_pool_eq rfl rfl
    · next n hn => exact (h.free (by rw [hh, hn]; rfl)).1.of_pool_eq rfl rfl

/-- The flush of isolation leaves the pool placed, whatever a grant given back had been attempted (R44). -/
theorem poolPlaced_isolate (h : PoolCore ∅ none s) : PoolPlaced (isolate id s) := by
  have hflush : PoolCore ∅ none (isolate id s) := by
    have hq := h.of_pool_eq (u := setLineIndicator false { s with
      engine :=
        { clearAttempt s.engine with
          port := .isolated, txn := none, pendingIsolate := none, jamStart := none, txFrame := [], txStart := none
          dropDE := false } }) rfl rfl
    exact (hq.flush (fun _ => true) .isolated).of_quiet
      ((Quiet.ofCalendar _ { (flush _ _ _).calendar with dueList := [] } fun _ => rfl).trans (quiet_emptyProbeList _))
  have htxn : (isolate id s).engine.txn = none := by simp [isolate, flushPort]
  refine ⟨by rw [heldSlot_of_none htxn]; exact hflush, hflush.fresh_of_clear ?_, fun _ => htxn⟩
  exact isolate_clear (fun _ => ⟨rfl, rfl, rfl⟩) s

theorem poolPlaced_placeReply (r : Reply) (h : PoolPlaced s) : PoolPlaced (placeReply r s) :=
  h.of_eq rfl (slotPart_placeReply r s) rfl rfl

theorem poolPlaced_isolateForPending (tag : Tag) (h : PoolCore ∅ none s) : PoolPlaced (isolateForPending tag s) := by
  rw [isolateForPending, isolate_eq]
  exact poolPlaced_placeReply _ (poolPlaced_isolate h)

theorem poolPlaced_leaveTransaction (h : PoolFree s) : PoolPlaced (leaveTransaction s) := by
  unfold leaveTransaction
  split
  · exact poolPlaced_isolateForPending _ h.1
  · exact h.placed rfl rfl rfl

theorem poolPlaced_deliver {t : Txn} (result : DropResult) (ht : s.engine.txn = some t) (h : PoolPlaced s) :
    PoolPlaced (deliver t result s) :=
  poolPlaced_leaveTransaction ((poolFree_deliverToOwner result ht h).of_flushes (flushes_deliverToMonitor ..))

theorem poolPlaced_enterJammed (h : PoolPlaced s) : PoolPlaced (enterJammed s) := by
  have habandon : PoolPlaced (jamAbandon s) := (poolFree_jamTransaction h).placed rfl rfl rfl
  have hflush : PoolPlaced (flushPort .lineFault (jamAbandon s)) :=
    (habandon.flush _ _).of_quiet ((Quiet.ofCalendar _ _ fun _ => rfl).trans (quiet_emptyProbeList _))
  have hstart : PoolPlaced (jamStarted (flushPort .lineFault (jamAbandon s))) := hflush.of_eq rfl rfl rfl rfl
  rw [enterJammed_eq]
  exact hstart.of_quiet ((quiet_raise ..).trans ((quiet_setLineIndicator ..).trans (quiet_bump ..)))

theorem poolPlaced_leaveTail (ht : s.engine.txn = none) (h : PoolPlaced s) : PoolPlaced (leaveTail s) := by
  have hfree : PoolFree (releaseLine s) := (h.free (heldSlot_of_none ht)).of_quiet (quiet_releaseLine s)
  unfold leaveTail
  dsimp only
  split
  · exact poolPlaced_isolateForPending _ hfree.1
  · exact hfree.placed rfl rfl ht

theorem poolPlaced_ownDropIsolate (f : ManageFrame) (h : PoolPlaced s) : PoolPlaced (ownDropIsolate f s) := by
  have hi : ∀ {u}, PoolCore ∅ none u → PoolPlaced (isolate (answerPort f) u) := fun hu => by
    rw [isolate_eq]
    exact poolPlaced_placeReply _ (poolPlaced_isolate hu)
  unfold ownDropIsolate
  split
  · next hp => exact hi (h.free_at_rest (.inl hp)).1
  · next hp => exact hi (h.free_at_rest (.inr (.inl hp))).1
  · exact hi (poolCore_returnGrant h)
  · exact poolPlaced_placeReply _ h
  · split
    · exact poolPlaced_placeReply _ h
    · exact h.of_eq rfl rfl rfl rfl

/-! ### Attempts and grants (R6 to R9, R26 to R30) -/

/-- The operations of an attempt keep the pool placed: only the engine's own record is touched, and it is not QUEUED. -/
theorem placedAttempts : AttemptLaws PoolPlaced where
  of_quiet q := PoolPlaced.of_quiet q
  of_transacting e s he hc _ h := by
    refine ⟨by rw [heldSlot_congr (s := s) hc]; exact h.1.of_pool_eq rfl rfl, h.2.1, fun hp => ?_⟩
    rcases hp with hp | hp | hp <;> · rw [show e.port = _ from hp] at he; cases he
  of_touchSlot i f s hf ht h := by
    obtain ⟨slot, hs, ha⟩ := h.held_occupied (heldSlot_eq_some.2 ht)
    have hnq : slot.state ≠ .queued := by rcases ha with ha | ha <;> simp [ha]
    refine ⟨h.1.touch hf i, h.2.1.putSlot i fun x hx hq => ?_, h.2.2⟩
    rw [hs] at hx
    rw [← Option.some.inj hx, (hf slot).2.2.1] at hq
    exact absurd hq hnq

/-- A claimant enters GUARD with the pool placed, if the slot that is held is the claimant's (R27). -/
theorem poolPlaced_enterGuard {t : Txn} (hc : PoolCore ∅ t.claimant.slot? s) (hf : QueuedAreFresh s) :
    PoolPlaced (enterGuard t s) :=
  placedAttempts.keeps_enterGuard_of_entered
    ⟨hc.of_pool_eq rfl rfl, hf, fun hp => by rcases hp with hp | hp | hp <;> cases hp⟩

/-- The head of a class queue, once it has left, becomes ACTIVE and the engine's (R9). -/
theorem poolPlaced_grantHost {i : SlotIx} {slot : Slot} (hs : s.pool.slots[i] = some slot) (hc : PoolCore {i} none s)
    (hf : QueuedAreFresh s) : PoolPlaced (grantHost i s) := by
  unfold grantHost
  rw [hs]
  refine poolPlaced_enterGuard (hc.activate hs) (hf.putSlot i fun x hx hq => ?_)
  obtain ⟨y, -, rfl⟩ := Option.map_eq_some_iff.1 hx
  cases hq

/-- A grant at rank 4 takes the head of its queue (R8). -/
theorem chooseOrdinary_heads {normal bulk : List SlotIx} {credit share : Nat} {g : Grant}
    (h : chooseOrdinary normal bulk credit share = some g) :
    (∃ i rest credit', g = .normal i rest credit' ∧ normal = i :: rest) ∨
      ∃ i rest, g = .bulk i rest ∧ bulk = i :: rest := by
  unfold chooseOrdinary at h
  repeat' split at h
  all_goals cases h
  · exact .inl ⟨_, _, _, rfl, rfl⟩
  · exact .inl ⟨_, _, _, rfl, rfl⟩
  · exact .inr ⟨_, _, rfl, rfl⟩
  · exact .inr ⟨_, _, rfl, rfl⟩

/-- A grant of a host request takes the head of its class queue (R7, R8). -/
theorem chooseGrant_heads {s : State} {g : Grant} (h : chooseGrant s = some g) :
    (∃ i rest, g = .urgent i rest ∧ s.pool.urgent = i :: rest) ∨ (∃ i rest, g = .poll i rest) ∨
      (∃ n rest, g = .probe n rest) ∨ (∃ i rest credit, g = .normal i rest credit ∧ s.pool.normal = i :: rest) ∨
      ∃ i rest, g = .bulk i rest ∧ s.pool.bulk = i :: rest := by
  unfold chooseGrant at h
  split at h
  · next hu =>
    obtain rfl := Option.some.inj h
    exact .inl ⟨_, _, rfl, hu⟩
  · obtain rfl := Option.some.inj h
    exact .inr (.inl ⟨_, _, rfl⟩)
  · obtain rfl := Option.some.inj h
    exact .inr (.inr (.inl ⟨_, _, rfl⟩))
  · exact .inr (.inr (.inr (chooseOrdinary_heads h)))

/-- The head of a class queue is granted (R9). -/
theorem poolPlaced_grantHead {cls : Class} {i : SlotIx} {rest : List SlotIx} {p : Pool} (h : PoolFree s)
    (hq : s.pool.queueOf cls = i :: rest) (hs : p.slots = s.pool.slots) (hu : p.queueOf cls = rest)
    (hother : ∀ d, d ≠ cls → p.queueOf d = s.pool.queueOf d) : PoolPlaced (grantHost i { s with pool := p }) := by
  obtain ⟨slot, hslot, -⟩ := h.1.head_occupied hq
  exact poolPlaced_grantHost (slot := slot) (by simpa only [hs] using hslot) (h.1.leaveHead hq hs hu hother rfl)
    (h.2.of_slots hs)

theorem poolPlaced_decideDrop (h : PoolPlaced s) : PoolPlaced (decideDrop s) := by
  unfold decideDrop
  split
  · next hp =>
    have hfree := h.free_at_rest (.inl hp)
    split
    · exact h
    · next g hg =>
      rcases chooseGrant_heads hg with ⟨i, rest, rfl, hq⟩ | ⟨i, rest, rfl⟩ | ⟨n, rest, rfl⟩ |
        ⟨i, rest, credit, rfl, hq⟩ | ⟨i, rest, rfl, hq⟩
      · exact poolPlaced_grantHead (cls := .urgent) hfree hq rfl rfl fun d hd => by cases d <;> trivial
      · exact poolPlaced_enterGuard (hfree.1.of_pool_eq rfl rfl) hfree.2
      · exact poolPlaced_enterGuard (hfree.1.of_pool_eq rfl rfl) hfree.2
      · exact poolPlaced_grantHead (cls := .normal) hfree hq rfl rfl fun d hd => by cases d <;> trivial
      · exact poolPlaced_grantHead (cls := .bulk) hfree hq rfl rfl fun d hd => by cases d <;> trivial
  · exact h

end Sys2Proof.Machine
end

section
/-! PROOF. The pool's agreement is kept by every step (R1, R2, R4, R5, R20, R26, R149). -/

namespace Sys2Proof.Machine

/-! ### The places -/

/-- With no slot occupied and nothing queued or granted, the pool is placed. -/
theorem poolPlaced_of_empty {s : State} (hp : s.pool = Pool.softReset) (hu : s.trunk.upstream = [])
    (ht : s.engine.txn = none) : PoolPlaced s := by
  have hslot : ∀ i : SlotIx, s.pool.slots[i] = none := fun i => by simp [hp, Pool.softReset]
  have hqueue : ∀ cls, s.pool.queueOf cls = [] := fun cls => by cases cls <;> simp [hp, Pool.softReset, Pool.queueOf]
  have hpart : slotPart s = [] := by simp [slotPart, hu]
  refine ⟨⟨fun i => ?_, fun cls => ?_, ?_⟩, fun i slot hs => ?_, fun _ => ht⟩
  · rw [heldSlot_of_none ht, hslot, hpart]
    exact ⟨by simp [hqueue], by simp, by simp, by simp, by simp⟩
  · rw [hqueue]; exact List.nodup_nil
  · rw [hpart]; exact List.nodup_nil
  · rw [hslot] at hs; cases hs

/-- The head of the Upstream Queue leaves with its slot, if it is a slot's entry (R20). -/
theorem poolPlaced_freeHead {i : SlotIx} {e : UpEntry} {rest : List UpEntry} {s : State} (h : PoolPlaced s)
    (hu : s.trunk.upstream = e :: rest) (he : e.item = .slot i) :
    PoolPlaced (freeSlot i { s with trunk := { s.trunk with upstream := rest } }) :=
  ⟨h.1.freeHead hu he, h.2.1.putSlot i (by rintro _ ⟨⟩), h.2.2⟩

theorem poolPlaced_discardBroadcastHeads (l : List UpEntry) (s : State) (hl : s.trunk.upstream = l) (h : PoolPlaced s) :
    PoolPlaced (discardBroadcastHeads l s) := by
  induction l generalizing s with
  | nil => exact h
  | cons e l ih =>
    unfold discardBroadcastHeads
    split
    · next i hi =>
      split
      · exact ih _ rfl (poolPlaced_freeHead h hl hi)
      · exact h
    · exact h

theorem poolPlaced_upstreamSent {s : State} (h : PoolPlaced s) : PoolPlaced (upstreamSent s) := by
  unfold upstreamSent
  split
  · exact h
  · next e rest hu =>
    dsimp only
    split
    · next i hi => exact poolPlaced_freeHead h hu hi
    · next r hr => exact h.of_eq rfl (by simp [slotPart, hu, UpEntry.slot?, hr]) rfl rfl

/-- A slot taken from its queue by an ABORT completes (R102). -/
theorem poolPlaced_abortQueued {i : SlotIx} {slot : Slot} {s : State} (hs : s.pool.slots[i] = some slot)
    (hq : slot.state = .queued) (h : PoolPlaced s) :
    PoolPlaced (completeSlot i .aborted 0#8 [] (leaveQueues (fun j => j == i) s)) := by
  have hcore := (h.1.leaveQueues fun j => j == i).complete .aborted 0#8 [] (i := i) ⟨beq_self_eq_true i, slot, hs, hq⟩
  have hempty : {j : SlotIx | (j == i) = true ∧ ∃ slot, s.pool.slots[j] = some slot ∧ slot.state = .queued} \ {i} = ∅ := by
    ext j
    simp only [Set.mem_sdiff, Set.mem_ofPred_eq, beq_iff_eq, Set.mem_singleton_iff, Set.mem_empty_iff_false, iff_false]
    rintro ⟨⟨e, -⟩, hne⟩
    exact hne e
  refine ⟨?_, ?_, ?_⟩
  · rw [heldSlot_congr (s := s) (by simp)]
    exact hempty ▸ hcore
  · exact (h.2.1.of_slots (leaveQueues_queues _ s).1).completeSlot i .aborted 0#8 []
  · simpa [RestHasNoTxn] using h.2.2

theorem poolPlaced_commitAnswered (tag : Tag) {s : State} (h : PoolPlaced s) : PoolPlaced (commitAnswered tag s) :=
  poolPlaced_placeReply _ (h.of_eq rfl rfl rfl rfl)

theorem poolPlaced_applyCommit (tag : Tag) {s : State} (h : PoolPlaced s) : PoolPlaced (applyCommit tag s) := by
  have hi : PoolPlaced (installShadow s) := h.of_eq rfl rfl rfl rfl
  have hn := (hi.of_flushes (flushes_updateNodes s.config.active _)).of_quiet (quiet_rebuildMirror s.config.active _)
  rw [applyCommit_eq]
  exact PoolPlaced.of_quiet (quiet_raise ..) (poolPlaced_commitAnswered tag hn)

theorem poolPlaced_admitSlot {r : Slot} (hr : r.isFresh) {s : State} (h : PoolPlaced s) : PoolPlaced (admitSlot r s) := by
  refine ⟨?_, ?_, ?_⟩
  · rw [heldSlot_congr (s := s) (by simp)]
    exact h.1.admitSlot hr
  · cases hi : firstFree s with
    | none => rw [admitSlot_of_full hi]; exact h.2.1
    | some i =>
      rw [admitSlot_of_free hi]
      refine QueuedAreFresh.of_slots (h.2.1.putSlot i (x := some r) ?_) rfl
      rintro _ ⟨⟩ -
      exact ⟨hr.2.1, hr.2.2.1⟩
  · simpa [RestHasNoTxn] using h.2.2

/-- The operations keep the pool placed. -/
theorem placedLaws : StepLaws PoolPlaced where
  toAttemptLaws := placedAttempts
  at_begin source s := poolPlaced_of_empty rfl rfl rfl
  at_release straps s := PoolPlaced.of_quiet (quiet_raise ..) (poolPlaced_of_empty rfl rfl rfl)
  of_softReset s _ := poolPlaced_of_empty rfl rfl rfl
  of_placeReply r s _ := poolPlaced_placeReply r
  of_decideDrop s := poolPlaced_decideDrop
  of_discardHeads s := poolPlaced_discardBroadcastHeads _ s rfl
  of_upstreamSent s := poolPlaced_upstreamSent
  of_admit r s hr _ _ _ := poolPlaced_admitSlot hr
  of_abortQueued i slot s := poolPlaced_abortQueued
  of_abortActive i slot s hs ha h := by
    refine ⟨h.1.abortActive hs ha, h.2.1.putSlot i fun x hx hq => ?_, h.2.2⟩
    obtain ⟨y, -, rfl⟩ := Option.map_eq_some_iff.1 hx
    cases hq
  of_withdraw id tag s _ h := h.of_eq rfl (slotPart_placeReply _ s) rfl rfl
  of_pend id tag s _ _ _ h := h.of_eq rfl rfl rfl rfl
  of_apply id tag s _ := poolPlaced_applyCommit tag
  of_flush p status s := PoolPlaced.flush p status
  of_listProbe n s _ _ h := h.of_eq rfl rfl rfl rfl
  of_formDue s h := h.of_eq rfl rfl rfl rfl
  of_dropIsolate f s _ _ := poolPlaced_ownDropIsolate f
  of_cancelIsolate tag s _ h := poolPlaced_placeReply _ (h.of_eq rfl rfl rfl rfl)
  of_leaveOut e s hp _ ht _ h := by
    have hnone : s.engine.txn = none := h.2.2 (.inr hp)
    exact (h.free (heldSlot_of_none hnone)).placed rfl rfl (ht.trans hnone)
  of_deliver t result s := poolPlaced_deliver result
  of_jam s _ := poolPlaced_enterJammed
  of_leaveTail s _ := poolPlaced_leaveTail

/-! ### The tags (R4) -/

/-- No slot is found for a tag where none carries it. -/
theorem slotOfTag_eq_none {s : State} {tag : Tag} :
    slotOfTag s tag = none ↔ ∀ i : SlotIx, ∀ a, s.pool.slots[i] = some a → a.tag ≠ tag := by
  rw [slotOfTag, List.find?_eq_none]
  constructor
  · intro h i a hi ht
    exact h i (List.mem_finRange i) (by simp [-Fin.getElem_fin, hi, ht])
  · intro h i _ hany
    obtain ⟨a, hi, ht⟩ := (Option.any_eq_true _ _).1 hany
    exact h i a hi (by simpa using ht)

theorem tagInUse_eq_false {s : State} {tag : Tag} :
    tagInUse s tag = false ↔
      (∀ i : SlotIx, ∀ a, s.pool.slots[i] = some a → a.tag ≠ tag) ∧ s.config.session.heldTag ≠ some tag ∧
        s.engine.pendingIsolate ≠ some tag := by
  simp only [tagInUse, Bool.or_eq_false_iff, beq_eq_false_iff_ne, and_assoc, Option.isSome_eq_false_iff,
    Option.isNone_iff_eq_none, slotOfTag_eq_none]

/-- No tag gains a holder where no slot is taken and nothing new is held. -/
theorem Eases.tags {s u : State} (e : Eases s u) : TagsHaveOneHolder s → TagsHaveOneHolder u := by
  rintro ⟨hone, hheld, hpend⟩
  have hsession : ∀ tag, u.config.session.heldTag = some tag → s.config.session.heldTag = some tag := by
    intro tag h
    rcases e.heldTag with he | he
    · rw [← he]; exact h
    · rw [he] at h; cases h
  have hisolate : ∀ tag, u.engine.pendingIsolate = some tag → s.engine.pendingIsolate = some tag := by
    intro tag h
    rcases e.isolate with he | he
    · rw [← he]; exact h
    · rw [he] at h; cases h
  refine ⟨fun i j a b ha hb ht => ?_, fun i a ha => ?_, fun tag h hi => hpend tag (hsession tag h) (hisolate tag hi)⟩
  · obtain ⟨x, hx, -, hxt⟩ := e.records i a ha
    obtain ⟨y, hy, -, hyt⟩ := e.records j b hb
    exact hone i j x y hx hy (by rw [hxt, hyt, ht])
  · obtain ⟨x, hx, -, hxt⟩ := e.records i a ha
    obtain ⟨h1, h2⟩ := hheld i x hx
    rw [hxt] at h1 h2
    exact ⟨fun h => h1 (hsession _ h), fun h => h2 (hisolate _ h)⟩

/-- With no slot occupied and no tag held there is nothing to tell apart. -/
theorem tags_of_empty {s : State} (hp : s.pool = Pool.softReset) (hs : s.config.session.heldTag = none) :
    TagsHaveOneHolder s := by
  have hslot : ∀ i : SlotIx, s.pool.slots[i] = none := fun i => by simp [hp, Pool.softReset]
  refine ⟨fun i j a b ha => ?_, fun i a ha => ?_, fun tag h => ?_⟩
  · rw [hslot] at ha; cases ha
  · rw [hslot] at ha; cases ha
  · rw [hs] at h; cases h

theorem tags_admitSlot {r : Slot} {s : State} (hr : tagInUse s r.tag = false) (h : TagsHaveOneHolder s) :
    TagsHaveOneHolder (admitSlot r s) := by
  cases hi : firstFree s with
  | none => rw [admitSlot_of_full hi]; exact h
  | some i =>
    obtain ⟨hfree, hses, hiso⟩ := tagInUse_eq_false.1 hr
    obtain ⟨hone, hheld, hpend⟩ := h
    have hslots : ∀ j : SlotIx, (admitSlot r s).pool.slots[j] = if i = j then some r else s.pool.slots[j] := by
      intro j
      rw [admitSlot_of_free hi, ← putSlot_slots]
      rfl
    refine ⟨fun j k a b ha hb ht => ?_, fun j a ha => ?_, by simpa using hpend⟩
    · rw [hslots] at ha hb
      split at ha <;> split at hb
      · next ej ek => exact ej.symm.trans ek
      · exact absurd (ht.symm.trans (by rw [Option.some.inj ha])) (hfree k b hb)
      · exact absurd (ht.trans (by rw [Option.some.inj hb])) (hfree j a ha)
      · exact hone j k a b ha hb ht
    · rw [hslots] at ha
      have hconfig : (admitSlot r s).config = s.config := by simp
      have hengine : (admitSlot r s).engine = s.engine := by simp
      rw [hconfig, hengine]
      split at ha
      · rw [← Option.some.inj ha]
        exact ⟨hses, hiso⟩
      · exact hheld j a ha

theorem tagLaws : StepLaws TagsHaveOneHolder := by
  refine easesLaws Eases.tags ?_ ?_ ?_ ?_ ?_ ?_
  · exact fun source s => tags_of_empty rfl rfl
  · exact fun straps s => (quiet_raise ..).eases.tags (tags_of_empty rfl rfl)
  · exact fun r s _ h => h
  · exact fun r s hr _ h => tags_admitSlot hr h
  · rintro id tag s - ht - ⟨hone, hheld, hpend⟩
    obtain ⟨hfree, -, hiso⟩ := tagInUse_eq_false.1 ht
    refine ⟨hone, fun i a ha => ⟨fun e => ?_, (hheld i a ha).2⟩, fun other h => ?_⟩
    · exact hfree i a ha (Option.some.inj e).symm
    · exact Option.some.inj h ▸ hiso
  · rintro f s - ht - ⟨hone, hheld, hpend⟩
    obtain ⟨hfree, hses, -⟩ := tagInUse_eq_false.1 ht
    refine ⟨hone, fun i a ha => ⟨(hheld i a ha).1, fun e => ?_⟩, fun tag h e => ?_⟩
    · exact hfree i a ha (Option.some.inj e).symm
    · exact hses (h.trans e.symm)

/-! ### What follows for the counts (R2, R149) -/

theorem countState_eq (s : State) (state : SlotState) :
    countState s state = (List.finRange 32).countP (fun i => (s.pool.slots[i]).any (fun slot => slot.state == state)) :=
  countP_slots ..

theorem countState_eq_zero {s : State} {state : SlotState}
    (h : ∀ i : SlotIx, ∀ slot, s.pool.slots[i] = some slot → slot.state ≠ state) : countState s state = 0 := by
  rw [countState_eq, List.countP_eq_zero]
  intro i _ hany
  obtain ⟨slot, hs, ht⟩ := (Option.any_eq_true _ _).1 hany
  exact h i slot hs (by simpa using ht)

/-- A state that one slot alone can be in is counted once at most. -/
theorem countState_le_one {s : State} {state : SlotState} (i : SlotIx)
    (h : ∀ j : SlotIx, ∀ slot, s.pool.slots[j] = some slot → slot.state = state → j = i) : countState s state ≤ 1 := by
  rw [countState_eq]
  refine le_trans ?_ (List.nodup_iff_count_le_one.1 (List.nodup_finRange 32) i)
  refine List.countP_mono_left fun j _ hany => ?_
  obtain ⟨slot, hs, ht⟩ := (Option.any_eq_true _ _).1 hany
  simpa using h j slot hs (by simpa using ht)

/-- The engine has one transaction, so at most one slot is ACTIVE or ABORT_PENDING (R2, R26). -/
theorem countActive_le_one {s : State} (h : EngineHoldsActive s) :
    countState s .active + countState s .abortPending ≤ 1 := by
  have hheld : ∀ i : SlotIx, ∀ slot, s.pool.slots[i] = some slot → slot.state = .active ∨ slot.state = .abortPending →
      s.engine.txn.map Txn.claimant = some (.host i) := fun i slot hs ha => (h.1 i).1 ⟨slot, hs, ha⟩
  have hone : ∀ i j : SlotIx, ∀ x y, s.pool.slots[i] = some x → s.pool.slots[j] = some y →
      x.state = .active ∨ x.state = .abortPending → y.state = .active ∨ y.state = .abortPending → i = j := by
    intro i j x y hx hy hxa hya
    have := (hheld i x hx hxa).symm.trans (hheld j y hy hya)
    simpa using this
  by_cases ha : ∃ i : SlotIx, slotHolds s i (fun slot => slot.state = .active)
  · obtain ⟨i, x, hx, hxa⟩ := ha
    have h0 : countState s .abortPending = 0 := by
      refine countState_eq_zero fun j y hy hyp => ?_
      obtain rfl := hone i j x y hx hy (.inl hxa) (.inr hyp)
      rw [hx] at hy
      obtain rfl := Option.some.inj hy
      rw [hxa] at hyp
      cases hyp
    have h1 : countState s .active ≤ 1 :=
      countState_le_one i fun j y hy hya => hone j i y x hy hx (.inl hya) (.inl hxa)
    omega
  · have h0 : countState s .active = 0 := countState_eq_zero fun i x hx hxa => ha ⟨i, x, hx, hxa⟩
    by_cases hp : ∃ i : SlotIx, slotHolds s i (fun slot => slot.state = .abortPending)
    · obtain ⟨i, x, hx, hxp⟩ := hp
      have h1 : countState s .abortPending ≤ 1 :=
        countState_le_one i fun j y hy hyp => hone j i y x hy hx (.inr hyp) (.inr hxp)
      omega
    · have h1 : countState s .abortPending = 0 := countState_eq_zero fun i x hx hxp => hp ⟨i, x, hx, hxp⟩
      omega

/-- One entry for each slot, so the slot part holds at most 32 (R149). -/
theorem countSlotEntries_le {s : State} (h : (slotPart s).Nodup) :
    s.trunk.upstream.countP (fun e => !e.isImmediate) ≤ 32 := by
  have hlen : s.trunk.upstream.countP (fun e => !e.isImmediate) = (slotPart s).length := by
    rw [slotPart, List.length_filterMap_eq_countP]
    congr 1
    funext e
    unfold UpEntry.isImmediate UpEntry.slot?
    split <;> simp_all
  rw [hlen]
  exact h.length_le_card.trans_eq (Fintype.card_fin 32)

/-- Settles O57: in the form that also describes a slot on its way, each operation keeps every slot in its place, and no tag
gains a second holder; the counts follow from one transaction and one entry for each slot. -/
theorem everyStepKeepsPoolConsistent : Obligations.EveryStepKeepsPoolConsistent := by
  refine ⟨fun s u h hs => ?_, fun s h => ?_⟩
  · obtain ⟨hplaced, htags⟩ := (poolConsistent_iff s).1 h
    exact (poolConsistent_iff u).2 ⟨placedLaws.step hplaced hs, tagLaws.step htags hs⟩
  · obtain ⟨-, ⟨hpart, -⟩, hengine, -⟩ := h
    exact ⟨countActive_le_one hengine, countSlotEntries_le hpart⟩

end Sys2Proof.Machine
end

section
/-! PROOF. The pool's operations as the obligations state them: completion, flushes and admission (R1, R3, R5, R12, R14,
R17, R20, R78). -/

namespace Sys2Proof.Machine

/-! ### Flushes (R5, R17) -/

/-- Settles O48. -/
theorem flushCompletesItsScopeInQueueOrder : Obligations.FlushCompletesItsScopeInQueueOrder := by
  intro p status s
  obtain ⟨hu, hn, hb, hc, -⟩ := flush_queues p status s
  exact ⟨hu, hn, hb, hc, flush_trunk p status s, fun i => flush_slots p status i s⟩

/-! ### Completion and the cells (R12, R14, R20, R78) -/

/-- Two ranges that name a word each meet where they have one in common (R78). -/
theorem rangesMeet_iff {a b : Word} {m n : Nat} (hm : 1 ≤ m) (hn : 1 ≤ n) :
    rangesMeet a m b n = true ↔
      ∃ k : Nat, (a.toNat ≤ k ∧ k < a.toNat + m) ∧ (b.toNat ≤ k ∧ k < b.toNat + n) := by
  simp only [rangesMeet, Bool.and_eq_true, decide_eq_true_eq]
  constructor
  · intro h
    exact ⟨max a.toNat b.toNat, by omega⟩
  · rintro ⟨k, hk⟩
    omega

theorem overlaps_iff {e : PollEntry} {w : PollKey} (he : 1 ≤ e.count) (hw : 1 ≤ w.count) :
    overlaps e w = true ↔
      e.used = true ∧ (w.node.val = 31 ∨ e.node = w.node) ∧ e.space = w.space ∧
        ∃ a : Nat,
          (e.address.toNat ≤ a ∧ a < e.address.toNat + e.count) ∧
            (w.address.toNat ≤ a ∧ a < w.address.toNat + w.count) := by
  rw [← rangesMeet_iff he hw]
  simp only [overlaps, Bool.and_eq_true, Bool.or_eq_true, beq_iff_eq, and_assoc, or_comm]

/-- A write completion is handed over by a WRITE completely sent that its node did not refuse (R14). -/
theorem handsOver_iff (slot : Slot) (status : Status) (detail : Byte) :
    handsOver slot status detail = true ↔
      slot.op = .write ∧ slot.sentOnce = true ∧ status ≠ .nodeException ∧
        ¬ (status = .abortedLate ∧ detail = 2#8) := by
  have hdetail : abortDetail (some (.exception 0#8)) = 2#8 := rfl
  simp [handsOver, hdetail, and_assoc, imp_iff_not_or]

/-- The cells after a slot's completion, one by one. -/
theorem cellsAfter_getElem (slot : Slot) (status : Status) (detail : Byte) (s : State) (j : CellIx) :
    (cellsAfter slot status detail s)[j] =
      if handsOver slot status detail = true ∧ (s.calendar.cells[j]).state = .fresh ∧
          overlaps s.config.active.poll[j] slot.range = true then (s.calendar.cells[j]).stale
      else s.calendar.cells[j] := by
  unfold cellsAfter
  by_cases h : handsOver slot status detail = true
  · simp [h, writeCompletion]
  · simp [h]

/-- Settles O21. -/
theorem slotCompletionPlacesReplyAndStalesCells : Obligations.SlotCompletionPlacesReplyAndStalesCells := by
  refine ⟨fun e w => overlaps_iff, fun i slot status detail data s h => ?_⟩
  have he := completeSlot_of_some status detail data h
  refine ⟨by rw [he]; rfl, by rw [he]; rfl, fun j => ?_, by rw [he]⟩
  simp only [he, cellsAfter_getElem, handsOver_iff, and_assoc]
  rfl

/-! ### Counters -/

theorem Counter.index_injective : Function.Injective Counter.index := by
  have hindex : ∀ c : Counter, c.index.val = c.ctorIdx := fun c => by cases c <;> rfl
  intro c d h
  rw [← Counter.ofNat_ctorIdx c, ← Counter.ofNat_ctorIdx d, ← hindex, ← hindex, h]

theorem counter_bump (c d : Counter) (s : State) :
    (bump c s).counter d = if d = c then s.counter d + 1#32 else s.counter d := by
  simp only [State.counter, bump, addCount, Fin.getElem_fin, Vector.getElem_set]
  by_cases h : d = c
  · simp [h]
  · have : c.index.val ≠ d.index.val := fun e => h (Counter.index_injective (Fin.ext e)).symm
    simp [h, this]

/-! ### Admission (R1, R3, R91, R100, R101) -/

/-- What R101 asks of the pool, by class. -/
theorem hasRoom_iff (cls : Class) (s : State) :
    hasRoom s cls = true ↔ (cls = .urgent ∧ 1 ≤ freeSlots s) ∨ (cls ≠ .urgent ∧ 4 < freeSlots s) := by
  have hurgent : hasRoom s .urgent = true ↔ 1 ≤ freeSlots s := decide_eq_true_iff
  have hnormal : hasRoom s .normal = true ↔ 4 < freeSlots s := decide_eq_true_iff
  have hbulk : hasRoom s .bulk = true ↔ 4 < freeSlots s := decide_eq_true_iff
  cases cls <;> simp [hurgent, hnormal, hbulk]

/-- Where a class has room a slot is free (R3). -/
theorem firstFree_of_hasRoom {cls : Class} {s : State} (h : hasRoom s cls = true) : ∃ i, firstFree s = some i := by
  have hpos : 0 < freeSlots s := by
    rcases (hasRoom_iff cls s).1 h with ⟨-, hf⟩ | ⟨-, hf⟩ <;> omega
  rw [freeSlots, countP_slots, List.countP_pos_iff] at hpos
  obtain ⟨i, hi, hn⟩ := hpos
  rw [← Option.isSome_iff_exists, firstFree, List.find?_isSome]
  exact ⟨i, hi, hn⟩

/-- A port and a node in service, or node 31, and room for the class: steps 6 to 8 of R91 refuse nothing. -/
theorem lineRefusal_of_open {s : State} {a : NodeAddr} {cls : Class} (hi : s.engine.port ≠ .isolated)
    (hj : s.engine.port ≠ .jammed) (hn : a.val = 31 ∨ (healthOf s a).inService = true) (hr : hasRoom s cls = true) :
    lineRefusal s a cls = none := by
  have hport : portRefusal s = none := by
    unfold portRefusal
    split <;> simp_all
  have hnode : nodeRefusal s a = none := by
    unfold nodeRefusal
    split
    · rfl
    · next h31 =>
      have hs := hn.resolve_left h31
      cases h : healthOf s a <;> simp_all [HealthState.inService]
  simp [lineRefusal, hport, hnode, hr]

theorem exec_requestInstr (op : Op) (t : Arrival) (f : RequestFrame) (s : State) :
    exec (requestInstr op t f) s = .next (takeDirect t (.request op f) (intakeRequest op f) s) := by
  cases op <;> rfl

/-- Settles O17. -/
theorem requestsThatPassAreAdmittedAtQueueTail : Obligations.RequestsThatPassAreAdmittedAtQueueTail := by
  refine ⟨?_, hasRoom_iff, fun r s h => ?_⟩
  · rintro op cls t f s hs ⟨hform, htag⟩ hacc hmirror hoffer hi hj hn hr
    have hline : lineRefusal (s.atFrame t) (nodeOf f.node) cls = none := by
      rw [lineRefusal_atFrame]
      exact lineRefusal_of_open hi hj hn hr
    have hnot : ¬ (op = .read ∧ mirrorOnly f = true) := fun ⟨hop, hm⟩ => by simp [hmirror hop] at hm
    rw [exec_requestInstr, takeDirect_of_serving _ hs (requestFormed_length hform _)]
    simp only [intakeRequest, hform, tagInUse_atFrame, htag, atFrame_keeps, hacc, hoffer, admitOrRefuse, hnot, hline,
      Bool.false_eq_true, if_false]
    cases op <;> rfl
  · obtain ⟨i, hi⟩ := firstFree_of_hasRoom h
    refine ⟨i, firstFree_free hi, ?_, ?_, fun c => ?_⟩
    · rw [admitSlot_of_free hi]; rfl
    · rw [admitSlot_of_free hi]; rfl
    · rw [admitSlot_of_free hi, counter_bump]; rfl

end Sys2Proof.Machine
end

section
/-! PROOF. What a flush leaves alone, and which blocks it does not read (R14, R17, R78). -/

namespace Sys2Proof.Machine

/-! ### What a flush changes -/

theorem completeSlot_calendar (i : SlotIx) (status : Status) (detail : Byte) (data : List Word) (s : State) :
    (completeSlot i status detail data s).calendar =
      { s.calendar with cells := (completeSlot i status detail data s).calendar.cells } := by
  cases h : s.pool.slots[i] with
  | none => rw [completeSlot_of_none _ _ _ h]
  | some slot => rw [completeSlot_of_some _ _ _ h]

/-- A flush changes nothing of the calendar but its cells. -/
theorem flush_calendar (p : Slot → Bool) (status : Status) (s : State) :
    (flush p status s).calendar = { s.calendar with cells := (flush p status s).calendar.cells } := by
  have h : ∀ (l : List SlotIx) (u : State), (completeAll status l u).calendar =
      { u.calendar with cells := (completeAll status l u).calendar.cells } := by
    intro l
    induction l with
    | nil => exact fun u => rfl
    | cons i l ih =>
      intro u
      rw [completeAll_cons, ih, completeSlot_calendar]
  rw [flush_eq_completeAll, h]
  rfl

/-! ### What a flush does not read -/

/-- A change that no completion reads can be made before or after a flush. -/
theorem flush_comm {f : State → State} (hpool : ∀ s, (f s).pool = s.pool)
    (hleave : ∀ p s, f (leaveQueues p s) = leaveQueues p (f s))
    (hcomplete : ∀ i status s, completeSlot i status 0#8 [] (f s) = f (completeSlot i status 0#8 [] s))
    (p : Slot → Bool) (status : Status) (s : State) : flush p status (f s) = f (flush p status s) := by
  have hall : ∀ (l : List SlotIx) (u : State), completeAll status l (f u) = f (completeAll status l u) := by
    intro l
    induction l with
    | nil => exact fun u => rfl
    | cons i l ih =>
      intro u
      rw [completeAll_cons, completeAll_cons, hcomplete, ih]
  rw [flush_eq_completeAll, flush_eq_completeAll, ← hall, hleave]
  simp only [flushScope, hpool]

/-- A flush does not read the Node Monitor. -/
theorem flush_setMonitor (m : Monitor) (p : Slot → Bool) (status : Status) (s : State) :
    flush p status { s with monitor := m } = { flush p status s with monitor := m } := by
  refine flush_comm (f := fun s => { s with monitor := m }) (fun _ => rfl) (fun _ _ => rfl) (fun i st u => ?_) p status s
  cases h : u.pool.slots[i] with
  | none => rw [completeSlot_of_none _ _ _ h, completeSlot_of_none _ _ _ (s := { u with monitor := m }) h]
  | some slot =>
    rw [completeSlot_of_some _ _ _ h, completeSlot_of_some _ _ _ (s := { u with monitor := m }) h]
    rfl

/-- A flush does not read the drop engine. -/
theorem flush_setEngine (e : Engine) (p : Slot → Bool) (status : Status) (s : State) :
    flush p status { s with engine := e } = { flush p status s with engine := e } := by
  refine flush_comm (f := fun s => { s with engine := e }) (fun _ => rfl) (fun _ _ => rfl) (fun i st u => ?_) p status s
  cases h : u.pool.slots[i] with
  | none => rw [completeSlot_of_none _ _ _ h, completeSlot_of_none _ _ _ (s := { u with engine := e }) h]
  | some slot =>
    rw [completeSlot_of_some _ _ _ h, completeSlot_of_some _ _ _ (s := { u with engine := e }) h]
    rfl

theorem flush_modifyHealth (n : NodeIx) (f : Health → Health) (p : Slot → Bool) (status : Status) (s : State) :
    flush p status (modifyHealth n f s) = { flush p status s with monitor := (modifyHealth n f s).monitor } :=
  flush_setMonitor ..

/-! ### The cells of the other nodes (R73, R78) -/

/-- Two cells vectors differ at most by STALE cells of a node's used entries. -/
def StaleOnlyAt (a : NodeAddr) (b : Tables) (old new : Vector Cell 64) : Prop :=
  ∀ i : CellIx,
    if (b.poll[i]).used = true ∧ (b.poll[i]).node = a then (new[i]).outOfService = (old[i]).outOfService
    else new[i] = old[i]

theorem StaleOnlyAt.refl (a : NodeAddr) (b : Tables) (cells : Vector Cell 64) : StaleOnlyAt a b cells cells := by
  intro i
  split <;> rfl

theorem StaleOnlyAt.trans {a : NodeAddr} {b : Tables} {x y z : Vector Cell 64} (h : StaleOnlyAt a b x y)
    (k : StaleOnlyAt a b y z) : StaleOnlyAt a b x z := by
  intro i
  have hi := h i
  have ki := k i
  split at hi
  · next hn =>
    rw [if_pos hn] at ki ⊢
    exact ki.trans hi
  · next hn =>
    rw [if_neg hn] at ki ⊢
    exact ki.trans hi

/-- A WRITE of one node makes no cell of another STALE (R78). -/
theorem staleOnlyAt_cellsAfter {slot : Slot} {n : NodeIx} (hn : slot.node = nodeAddr n) (status : Status) (detail : Byte)
    (s : State) : StaleOnlyAt (nodeAddr n) s.config.active s.calendar.cells (cellsAfter slot status detail s) := by
  have h31 : (nodeAddr n).val ≠ 31 := by simp only [nodeAddr]; omega
  intro i
  rw [cellsAfter_getElem]
  split
  · split <;> rfl
  · next hnot =>
    refine if_neg ?_
    rintro ⟨-, -, ho⟩
    simp only [overlaps, Slot.range, hn, Bool.and_eq_true, Bool.or_eq_true, beq_iff_eq, h31, or_false] at ho
    obtain ⟨⟨⟨hused, hnode⟩, -⟩, -⟩ := ho
    exact hnot ⟨hused, hnode⟩

/-- A flush by node makes at most cells of that node STALE. -/
theorem staleOnlyAt_flush (n : NodeIx) (status : Status) (s : State) :
    StaleOnlyAt (nodeAddr n) s.config.active s.calendar.cells
      (flush (addressedTo (nodeAddr n)) status s).calendar.cells := by
  have hall : ∀ (l : List SlotIx) (u : State),
      (∀ i ∈ l, ∀ slot, u.pool.slots[i] = some slot → slot.node = nodeAddr n) →
      StaleOnlyAt (nodeAddr n) u.config.active u.calendar.cells (completeAll status l u).calendar.cells := by
    intro l
    induction l with
    | nil => exact fun u _ => .refl _ _ _
    | cons i l ih =>
      intro u hu
      have hstep : StaleOnlyAt (nodeAddr n) u.config.active u.calendar.cells
          (completeSlot i status 0#8 [] u).calendar.cells := by
        cases h : u.pool.slots[i] with
        | none => rw [completeSlot_of_none _ _ _ h]; exact .refl _ _ _
        | some slot =>
          rw [completeSlot_of_some _ _ _ h]
          exact staleOnlyAt_cellsAfter (hu i List.mem_cons_self slot h) status 0#8 u
      refine hstep.trans ?_
      have hrest := ih (completeSlot i status 0#8 [] u) fun j hj slot hs => ?_
      · simpa using hrest
      · rw [completeSlot_slots] at hs
        split at hs
        · obtain ⟨x, hx, rfl⟩ := Option.map_eq_some_iff.1 hs
          exact hu j (List.mem_cons_of_mem i hj) x hx
        · exact hu j (List.mem_cons_of_mem i hj) slot hs
  rw [flush_eq_completeAll]
  refine hall _ (leaveQueues _ s) fun i hi slot hs => ?_
  obtain ⟨x, hx, ha⟩ := (Option.any_eq_true _ _).1 (flushScope_mem.1 hi).2
  rw [leaveQueues_queues _ s |>.1, hx] at hs
  obtain rfl := Option.some.inj hs
  simpa [addressedTo] using ha

theorem flush_config (p : Slot → Bool) (status : Status) (s : State) : (flush p status s).config = s.config := by simp

theorem failCellsOf_getElem (a : NodeAddr) (s : State) (i : CellIx) :
    (failCellsOf a s).calendar.cells[i] =
      if (s.config.active.poll[i]).used = true ∧ (s.config.active.poll[i]).node = a then
        (s.calendar.cells[i]).outOfService
      else s.calendar.cells[i] := by
  simp [failCellsOf]

/-- A node's cells go out of service in the same way after a flush by node (R73). -/
theorem failCells_flush (n : NodeIx) (status : Status) (s : State) (i : CellIx) :
    (failCellsOf (nodeAddr n) (flush (addressedTo (nodeAddr n)) status s)).calendar.cells[i] =
      if (s.config.active.poll[i]).used = true ∧ (s.config.active.poll[i]).node = nodeAddr n then
        (s.calendar.cells[i]).outOfService
      else s.calendar.cells[i] := by
  have h := staleOnlyAt_flush n status s i
  rw [failCellsOf_getElem, flush_config]
  split at h
  · next hn => rw [if_pos hn, if_pos hn, h]
  · next hn => rw [if_neg hn, if_neg hn, h]

/-- The due list goes without the node's entries, the calendar otherwise as it was but for the cells (R73). -/
theorem failCells_flush_calendar (n : NodeIx) (status : Status) (s : State) :
    (failCellsOf (nodeAddr n) (flush (addressedTo (nodeAddr n)) status s)).calendar =
      { s.calendar with
        cells := (failCellsOf (nodeAddr n) (flush (addressedTo (nodeAddr n)) status s)).calendar.cells
        dueList := s.calendar.dueList.filter (fun i => (s.config.active.poll[i]).node != nodeAddr n) } := by
  simp only [failCellsOf, flush_keeps]
  rw [flush_calendar]

end Sys2Proof.Machine
end

section
/-! PROOF. The Node Monitor's operations on one health record, and NODE_DISABLE (R18, R49 to R60, R73, R104). -/

namespace Sys2Proof.Machine

/-! ### Health records -/

theorem modifyHealth_health (n m : NodeIx) (f : Health → Health) (s : State) :
    (modifyHealth n f s).monitor.health[m] = if m = n then f s.monitor.health[n] else s.monitor.health[m] := by
  simp only [modifyHealth, Fin.getElem_fin, Vector.getElem_set, Fin.ext_iff, eq_comm]

theorem modifyHealth_config (n : NodeIx) (f : Health → Health) (s : State) :
    (modifyHealth n f s).config = s.config := rfl

@[simp] theorem modifyHealth_probeList (n : NodeIx) (f : Health → Health) (s : State) :
    (modifyHealth n f s).monitor.probeList = s.monitor.probeList := rfl

/-- A record whose LISTED claim has left the probe list (R52, R60). -/
def Health.unlisted (h : Health) : Health :=
  if h.claim = .listed then { h with claim := .none } else h

theorem unlistProbe_health (n m : NodeIx) (s : State) :
    (unlistProbe n s).monitor.health[m] = if m = n then (s.monitor.health[n]).unlisted else s.monitor.health[m] :=
  modifyHealth_health ..

/-- IND_NODE shows while some node is OFFLINE (R55). -/
theorem evalNodeIndicator_iff (s : State) :
    (evalNodeIndicator s).status.indNode = true ↔ ∃ m : NodeIx, (s.monitor.health[m]).state = .offline := by
  simp only [evalNodeIndicator, toList_eq_map_finRange, List.any_map, List.any_eq_true, List.mem_finRange, true_and,
    Function.comp_apply, beq_iff_eq]

theorem evalNodeIndicator_monitor (s : State) : (evalNodeIndicator s).monitor = s.monitor := rfl

@[simp] theorem evalNodeIndicator_counters (s : State) :
    (evalNodeIndicator s).status.counters = s.status.counters := rfl

/-! ### The argument of a node command (R104) -/

theorem argNode_eq_none {f : ManageFrame} (h : argByte f 0 = 0#8 ∨ 30 < (argByte f 0).toNat) : argNode f = none := by
  refine dif_neg ?_
  rcases h with h | h
  · simp [h]
  · omega

theorem argNode_eq_some {f : ManageFrame} {n : NodeIx} (h : (argByte f 0).toNat = n.val + 1) : argNode f = some n := by
  have hn := n.isLt
  rw [argNode, dif_pos (by omega)]
  exact congrArg some (Fin.ext (by simp [h]))

/-- The node's byte in the result is the argument (R134). -/
theorem nodeResult_eq {f : ManageFrame} {n : NodeIx} (h : (argByte f 0).toNat = n.val + 1) (s : State) :
    nodeResult n s = [.raw [argByte f 0, (s.monitor.health[n]).state.code]] := by
  rw [nodeResult, ← h, BitVec.ofNat_toNat, BitVec.setWidth_eq]

/-! ### NODE_DISABLE (R60) -/

/-- A node is taken out of service: the flush by node first, its cells and due polls next, and then its record. -/
theorem disableNode_eq (n : NodeIx) (s : State) :
    disableNode n s =
      evalNodeIndicator
        (unlistProbe n
          (modifyHealth n (fun h => { h with probeDue := none, offlineSince := none })
            { failCellsOf (nodeAddr n) (flush (addressedTo (nodeAddr n)) .nodeDisabled s) with
              monitor := (modifyHealth n (fun h => { h with state := .disabled }) s).monitor })) := by
  unfold disableNode
  dsimp only
  rw [flush_modifyHealth]
  rfl

theorem disableNode_health (n m : NodeIx) (s : State) :
    (disableNode n s).monitor.health[m] =
      if m = n then
        { s.monitor.health[n] with
          state := .disabled, probeDue := none, offlineSince := none
          claim := if (s.monitor.health[n]).claim = .listed then .none else (s.monitor.health[n]).claim }
      else s.monitor.health[m] := by
  rw [disableNode_eq, evalNodeIndicator_monitor, unlistProbe_health]
  simp only [modifyHealth_health]
  by_cases h : m = n
  · subst h
    simp only [if_true, Health.unlisted]
    split <;> simp_all
  · simp only [if_neg h]

theorem disableNode_blocks (n : NodeIx) (s : State) :
    (disableNode n s).pool = (flush (addressedTo (nodeAddr n)) .nodeDisabled s).pool ∧
    (disableNode n s).trunk = (flush (addressedTo (nodeAddr n)) .nodeDisabled s).trunk ∧
    (disableNode n s).status.counters = s.status.counters := by
  rw [disableNode_eq]
  simp

theorem atFrame_monitor (t : Arrival) (s : State) : (s.atFrame t).monitor = s.monitor := rfl

theorem exec_nodeDisable {t : Arrival} {f : ManageFrame} {s : State} (hs : Serving s)
    (h : ManagePasses .nodeDisable f s) :
    exec (.nodeDisable t f) s = .next (decideA (ownNodeDisable f (s.atFrame t))) :=
  congrArg Host.Outcome.next (takeManage_of_passes t ownNodeDisable hs h)

/-- Settles O31. -/
theorem nodeDisableTakesNodeOutOfService : Obligations.NodeDisableTakesNodeOutOfService := by
  refine ⟨fun t f s hs hp harg => ?_, fun t f n s hs hp harg => ?_⟩
  · rw [exec_nodeDisable hs hp, ownNodeDisable, argNode_eq_none harg]
    rfl
  · rw [exec_nodeDisable hs hp, ownNodeDisable, argNode_eq_some harg]
    dsimp only
    rw [atFrame_monitor]
    refine ⟨fun h => ?_, fun h => ?_, fun ha hd => ?_⟩
    · rw [h]
      simp only [answerNode, nodeResult_eq harg, reply, atFrame_monitor, h]
    · rw [h]
      simp only [answerNode, nodeResult_eq harg, reply, atFrame_monitor, h]
    · refine ⟨disableNode n (s.atFrame t), ?_, ?_, fun m hm => ?_, ?_, ?_, fun i => ?_, ?_, ?_, ?_, ?_, by simp, by simp,
        by simp, by simp⟩
      · have hanswer : answerNode f n .ok (disableNode n (s.atFrame t)) =
            answer f.tag f.node .ok 0#8 [.raw [argByte f 0, HealthState.disabled.code]] (disableNode n (s.atFrame t)) := by
          rw [answerNode, nodeResult_eq harg, disableNode_health, if_pos rfl, reply]
        split
        · next h => exact absurd h ha
        · next h => exact absurd h hd
        · rw [hanswer]
      · rw [disableNode_health, if_pos rfl]; rfl
      · rw [disableNode_health, if_neg hm]; rfl
      · rw [disableNode_eq]; rfl
      · rw [disableNode_eq]
        exact congrArg Calendar.dueList (failCells_flush_calendar n .nodeDisabled (s.atFrame t))
      · rw [disableNode_eq]
        exact failCells_flush n .nodeDisabled (s.atFrame t) i
      · exact (disableNode_blocks n _).1
      · exact (disableNode_blocks n _).2.1
      · rw [disableNode_eq, evalNodeIndicator_iff, evalNodeIndicator_monitor]
      · exact (disableNode_blocks n _).2.2

end Sys2Proof.Machine
end

section
/-! PROOF. What answers and failures do to a node (R18, R50 to R55, R73). -/

namespace Sys2Proof.Machine

theorem raise_of_serving {s : State} (h : s.repeater = false) (kind : NoticeKind) (node : Option NodeAddr) (detail : Word) :
    raise kind node detail s = { s with notices := s.notices.takeRaise kind node detail s.time.clock } := by
  simp [raise, h]

theorem raise_monitor (kind : NoticeKind) (node : Option NodeAddr) (detail : Word) (s : State) :
    (raise kind node detail s).monitor = s.monitor := by simp

theorem raise_status (kind : NoticeKind) (node : Option NodeAddr) (detail : Word) (s : State) :
    (raise kind node detail s).status = s.status := by simp

/-! ### Entry into OFFLINE (R54) -/

/-- A node goes OFFLINE: the flush by node first, its cells and due polls next, then its timer and the notice. -/
theorem enterOffline_eq (n : NodeIx) (s : State) :
    enterOffline n s =
      evalNodeIndicator
        (raise .nodeOffline (some (nodeAddr n)) (BitVec.ofNat 16 (nodeScope n s).length)
          (armProbe n
            { failCellsOf (nodeAddr n) (flush (addressedTo (nodeAddr n)) .nodeOffline s) with
              monitor :=
                (modifyHealth n (fun h => { h with state := .offline, offlineSince := some s.time.clock }) s).monitor })) := by
  unfold enterOffline
  dsimp only
  rw [flush_modifyHealth]
  rfl

theorem enterOffline_health (n m : NodeIx) (s : State) :
    (enterOffline n s).monitor.health[m] =
      if m = n then
        { s.monitor.health[n] with
          state := .offline, offlineSince := some s.time.clock
          probeDue := some (s.time.clock + ms ((s.config.active.node[n]).probeUnits * 100)) }
      else s.monitor.health[m] := by
  rw [enterOffline_eq, evalNodeIndicator_monitor, raise_monitor, armProbe, modifyHealth_health]
  simp only [modifyHealth_health]
  by_cases h : m = n
  · subst h
    simp
  · simp only [if_neg h]

/-! ### The records of the other nodes -/

theorem applyAnswer_health_ne {n m : NodeIx} (hm : m ≠ n) (latency : Word32) (s : State) :
    (applyAnswer n latency s).monitor.health[m] = s.monitor.health[m] := by
  unfold applyAnswer
  dsimp only
  split
  · rfl
  · rfl
  · rw [evalNodeIndicator_monitor, raise_monitor, unlistProbe_health, if_neg hm, modifyHealth_health, if_neg hm]
  · rw [modifyHealth_health, if_neg hm]

theorem applyFailure_health_ne {n m : NodeIx} (hm : m ≠ n) (s : State) :
    (applyFailure n s).monitor.health[m] = s.monitor.health[m] := by
  unfold applyFailure
  dsimp only
  split
  · rfl
  · rfl
  · rw [modifyHealth_health, if_neg hm]
  · split
    · rw [enterOffline_health, if_neg hm, modifyHealth_health, if_neg hm]
    · rw [modifyHealth_health, if_neg hm, modifyHealth_health, if_neg hm]

/-- An outcome is an answer or a failure (R52, R53). -/
theorem applyOutcome_answer {result : DropResult}
    (h : (∃ data, result = .ok data) ∨ ∃ code, result = .exception code) (n : NodeIx) (latency : Word32) (s : State) :
    applyOutcome n result latency s = applyAnswer n latency s := by
  rcases h with ⟨data, rfl⟩ | ⟨code, rfl⟩ <;> rfl

theorem applyOutcome_failure {result : DropResult} (h : result = .timeout ∨ ∃ d, result = .corrupt d) (n : NodeIx)
    (latency : Word32) (s : State) : applyOutcome n result latency s = applyFailure n s := by
  rcases h with rfl | ⟨d, rfl⟩ <;> rfl

theorem applyOutcome_health_ne {n m : NodeIx} (hm : m ≠ n) (result : DropResult) (latency : Word32) (s : State) :
    (applyOutcome n result latency s).monitor.health[m] = s.monitor.health[m] := by
  cases result with
  | ok data => exact applyAnswer_health_ne hm latency s
  | exception code => exact applyAnswer_health_ne hm latency s
  | timeout => exact applyFailure_health_ne hm s
  | corrupt d => exact applyFailure_health_ne hm s

/-- A node that is ABSENT or DISABLED has no outcomes applied to it. -/
theorem applyOutcome_of_out {n : NodeIx} {s : State}
    (h : (s.monitor.health[n]).state = .absent ∨ (s.monitor.health[n]).state = .disabled) (result : DropResult)
    (latency : Word32) : applyOutcome n result latency s = s := by
  have ha : applyAnswer n latency s = s := by
    unfold applyAnswer
    rcases h with h | h <;> simp only [h]
  have hf : applyFailure n s = s := by
    unfold applyFailure
    rcases h with h | h <;> simp only [h]
  cases result with
  | ok data => exact ha
  | exception code => exact ha
  | timeout => exact hf
  | corrupt d => exact hf

/-! ### Answers (R52) -/

/-- An answer of a node in service changes its record alone. -/
theorem applyAnswer_of_inService {n : NodeIx} {s : State} (ha : (s.monitor.health[n]).state ≠ .absent)
    (hd : (s.monitor.health[n]).state ≠ .disabled) (ho : (s.monitor.health[n]).state ≠ .offline) (latency : Word32) :
    applyAnswer n latency s = modifyHealth n (Health.answered latency) s := by
  unfold applyAnswer
  dsimp only
  split
  · next h => exact absurd h ha
  · next h => exact absurd h hd
  · next h => exact absurd h ho
  · rfl

/-- The record of a node that was OFFLINE and has answered, its probe gone (R52). -/
def Health.recovered (latency : Word32) (h : Health) : Health :=
  Health.unlisted { h.answered latency with offlineSince := none, probeDue := none }

/-- An answer of an OFFLINE node also removes its probe, raises NODE_RECOVERED and re-evaluates the indicator. -/
theorem applyAnswer_of_offline {n : NodeIx} {s : State} (ho : (s.monitor.health[n]).state = .offline) (latency : Word32) :
    applyAnswer n latency s =
      evalNodeIndicator
        (raise .nodeRecovered (some (nodeAddr n))
          (wholeMs ((s.monitor.health[n]).offlineSince.getD s.time.clock) s.time.clock)
          (unlistProbe n
            (modifyHealth n (fun h => { h.answered latency with offlineSince := none, probeDue := none }) s))) := by
  unfold applyAnswer
  dsimp only
  rw [ho]
  rfl

theorem applyAnswer_health_offline {n : NodeIx} {s : State} (ho : (s.monitor.health[n]).state = .offline)
    (latency : Word32) : (applyAnswer n latency s).monitor.health[n] = (s.monitor.health[n]).recovered latency := by
  rw [applyAnswer_of_offline ho, evalNodeIndicator_monitor, raise_monitor, unlistProbe_health, if_pos rfl,
    modifyHealth_health, if_pos rfl]
  rfl

/-! ### Failures (R53, R54) -/

theorem applyFailure_of_inService {n : NodeIx} {s : State}
    (h : (s.monitor.health[n]).state = .unknown ∨ (s.monitor.health[n]).state = .online ∨
      (s.monitor.health[n]).state = .suspect) :
    applyFailure n s =
      if (s.config.active.node[n]).threshold ≤ min 15 ((s.monitor.health[n]).failures + 1) then
        enterOffline n (modifyHealth n Health.failed s)
      else modifyHealth n (fun h => { h with state := .suspect }) (modifyHealth n Health.failed s) := by
  unfold applyFailure
  dsimp only
  rw [modifyHealth_health, if_pos rfl, modifyHealth_config]
  rcases h with h | h | h <;> rw [h] <;> rfl

theorem applyFailure_of_offline {n : NodeIx} {s : State} (h : (s.monitor.health[n]).state = .offline) :
    applyFailure n s = modifyHealth n Health.failed s := by
  unfold applyFailure
  dsimp only
  rw [h]

/-- A record written twice is written with the second. -/
theorem modifyHealth_modifyHealth (n : NodeIx) (f g : Health → Health) (s : State) :
    modifyHealth n g (modifyHealth n f s) = modifyHealth n (g ∘ f) s := by
  simp [modifyHealth]

/-- The other blocks after a node has gone OFFLINE. -/
theorem enterOffline_blocks (n : NodeIx) (s : State) :
    (enterOffline n s).pool = (flush (addressedTo (nodeAddr n)) .nodeOffline s).pool ∧
    (enterOffline n s).trunk = (flush (addressedTo (nodeAddr n)) .nodeOffline s).trunk ∧
    (enterOffline n s).calendar =
      (failCellsOf (nodeAddr n) (flush (addressedTo (nodeAddr n)) .nodeOffline s)).calendar ∧
    (enterOffline n s).monitor.probeList = s.monitor.probeList := by
  rw [enterOffline_eq]
  simp [armProbe]

theorem enterOffline_status (n : NodeIx) (s : State) :
    (enterOffline n s).status = { s.status with indNode := true } := by
  have hoffline : (enterOffline n s).status.indNode = true := by
    have hn := enterOffline_health n n s
    rw [if_pos rfl] at hn
    rw [enterOffline_eq] at hn ⊢
    exact (evalNodeIndicator_iff _).2 ⟨n, by rw [← evalNodeIndicator_monitor, hn]⟩
  have hrest : (enterOffline n s).status = { s.status with indNode := (enterOffline n s).status.indNode } := by
    rw [enterOffline_eq, evalNodeIndicator]
    simp
  rw [hrest, hoffline]

theorem enterOffline_notices {s : State} (h : s.repeater = false) (n : NodeIx) :
    (enterOffline n s).notices =
      s.notices.takeRaise .nodeOffline (some (nodeAddr n)) (BitVec.ofNat 16 (nodeScope n s).length) s.time.clock := by
  rw [enterOffline_eq, raise_of_serving (by simpa [State.repeater] using h)]
  simp

/-- The record of a node that has answered (R52). -/
theorem applyAnswer_health {n : NodeIx} {s : State} (ha : (s.monitor.health[n]).state ≠ .absent)
    (hd : (s.monitor.health[n]).state ≠ .disabled) (latency : Word32) :
    (applyAnswer n latency s).monitor.health[n] =
      if (s.monitor.health[n]).state = .offline then (s.monitor.health[n]).recovered latency
      else (s.monitor.health[n]).answered latency := by
  split
  · next ho => exact applyAnswer_health_offline ho latency
  · next ho => rw [applyAnswer_of_inService ha hd ho, modifyHealth_health, if_pos rfl]

/-- Settles O45. -/
theorem outcomesMoveNodeHealth : Obligations.OutcomesMoveNodeHealth := by
  refine ⟨fun n result lat s h => applyOutcome_of_out h result lat,
    fun n m result lat s hm => applyOutcome_health_ne hm result lat s, ?_, ?_, ?_⟩
  · rintro n result lat h s u rfl ha hd hr rfl
    rw [applyOutcome_answer hr]
    refine ⟨?_, fun ho => ?_, fun since ho hs hrep => ?_⟩
    · rw [applyAnswer_health ha hd]
      by_cases ho : (s.monitor.health[n]).state = .offline
      · by_cases hl : (s.monitor.health[n]).claim = .listed
        · simp [-Fin.getElem_fin, ho, hl, Health.recovered, Health.unlisted, Health.answered]
          rfl
        · simp [-Fin.getElem_fin, ho, hl, Health.recovered, Health.unlisted, Health.answered]
          rfl
      · simp [-Fin.getElem_fin, ho, Health.answered]
        rfl
    · rw [applyAnswer_of_inService ha hd ho]
      rfl
    · rw [applyAnswer_of_offline ho, evalNodeIndicator_iff, evalNodeIndicator_monitor, hs, Option.getD_some,
        raise_of_serving (by exact hrep)]
      exact ⟨rfl, .rfl⟩
  · rintro n result lat h s u v rfl hs hr rfl rfl
    rw [applyOutcome_failure hr, applyFailure_of_inService hs]
    refine ⟨fun ht => ?_, fun ht => ?_⟩
    · rw [if_pos ht]
      obtain ⟨hpool, htrunk, hcalendar, hlist⟩ := enterOffline_blocks n (modifyHealth n Health.failed s)
      rw [flush_modifyHealth] at hpool htrunk hcalendar
      refine ⟨?_, hlist, hpool, htrunk, fun i => ?_, ?_, ?_, fun hrep => ?_, by simp, by simp, by simp⟩
      · rw [enterOffline_health, if_pos rfl, modifyHealth_health, if_pos rfl]
        rfl
      · rw [hcalendar]
        exact failCells_flush n .nodeOffline s i
      · rw [hcalendar]
        exact failCells_flush_calendar n .nodeOffline s
      · rw [enterOffline_status]
        rfl
      · exact enterOffline_notices (s := modifyHealth n Health.failed s) hrep n
    · rw [if_neg (Nat.not_le.2 ht), modifyHealth_modifyHealth]
      rfl
  · rintro n result lat h s rfl ho hr
    rw [applyOutcome_failure hr, applyFailure_of_offline ho]
    rfl

end Sys2Proof.Machine
end

section
/-! PROOF. A jam: the granted transaction's end, the flush by port, the probe claims dropped, and the way back
(R11, R13, R19, R28, R40, R41, R58). -/

namespace Sys2Proof.Machine

/-! ### Probe claims dropped (R58) -/

theorem modifyHealth_congr {n : NodeIx} {f g : Health → Health} {s : State}
    (h : f s.monitor.health[n] = g s.monitor.health[n]) : modifyHealth n f s = modifyHealth n g s := by
  rw [modifyHealth, modifyHealth, h]

/-- A claim dropped without an outcome changes its node's record alone. -/
theorem dropProbe_eq (n : NodeIx) (s : State) :
    dropProbe n s = modifyHealth n (Health.claimDropped s.time.clock (s.config.active.node[n]).probeUnits) s := by
  unfold dropProbe
  dsimp only
  rw [modifyHealth_health, if_pos rfl]
  split
  · next h =>
    rw [armProbe, modifyHealth_modifyHealth]
    exact modifyHealth_congr (by
      simp only [Function.comp_apply, Health.claimDropped, if_pos (show (s.monitor.health[n]).state = .offline from h),
        modifyHealth_keeps])
  · next h =>
    exact modifyHealth_congr (by
      simp only [Health.claimDropped, if_neg (show ¬ (s.monitor.health[n]).state = .offline from h)])

theorem claimDropped_idem (now : Stamp) (units : Nat) (h : Health) :
    (h.claimDropped now units).claimDropped now units = h.claimDropped now units := by
  by_cases ho : h.state = .offline <;> simp [Health.claimDropped, ho]

theorem foldl_dropProbe_health (l : List NodeIx) (m : NodeIx) (s : State) :
    (l.foldl (fun s n => dropProbe n s) s).monitor.health[m] =
      if m ∈ l then (s.monitor.health[m]).claimDropped s.time.clock (s.config.active.node[m]).probeUnits
      else s.monitor.health[m] := by
  induction l generalizing s with
  | nil => simp
  | cons n l ih =>
    have htime : (dropProbe n s).time = s.time := by simp
    have hconfig : (dropProbe n s).config = s.config := by simp
    rw [List.foldl_cons, ih, htime, hconfig, dropProbe_eq, modifyHealth_health]
    by_cases hm : m = n
    · subst hm
      simp [claimDropped_idem]
    · simp [hm]

/-- Each listed node's claim is dropped, however often it is listed (R58). -/
theorem emptyProbeList_health (m : NodeIx) (s : State) :
    (emptyProbeList s).monitor.health[m] =
      if m ∈ s.monitor.probeList then
        (s.monitor.health[m]).claimDropped s.time.clock (s.config.active.node[m]).probeUnits
      else s.monitor.health[m] :=
  foldl_dropProbe_health s.monitor.probeList m { s with monitor := { s.monitor with probeList := [] } }

@[simp] theorem jamTransaction_probeList (s : State) : (jamTransaction s).monitor.probeList = s.monitor.probeList := by
  unfold jamTransaction
  split
  · rfl
  · split <;> simp

/-! ### The jam (R11, R13, R40) -/

/-- The engine with its transaction ended and the port JAMMED (R11). -/
def Engine.jammed (e : Engine) : Engine :=
  { clearAttempt e with port := .jammed, txn := none }

/-- The flush by port of a jam is the flush of every slot, whatever the engine holds (R19). -/
theorem flushPort_jamAbandon (s : State) :
    flushPort .lineFault (jamAbandon s) =
      emptyProbeList
        { flush (fun _ => true) .lineFault (jamTransaction s) with
          engine := (jamTransaction s).engine.jammed
          calendar := { (flush (fun _ => true) .lineFault (jamTransaction s)).calendar with dueList := [] } } := by
  have hflush := flush_setEngine (jamTransaction s).engine.jammed (fun _ => true) .lineFault (jamTransaction s)
  rw [flushPort, show jamAbandon s = { jamTransaction s with engine := (jamTransaction s).engine.jammed } from rfl, hflush]

/-- The host slot of a jam completes with the status of R11 or R13. -/
theorem jamHost_of_some {i : SlotIx} {slot : Slot} {s : State} (h : s.pool.slots[i] = some slot) :
    jamHost i s =
      completeSlot i
        (if slot.state = .abortPending then
          if slot.op = .write ∧ slot.sentOnce = true then .abortedLate else .aborted
        else .lineFault)
        0#8 [] s := by
  unfold jamHost
  rw [h]
  dsimp only
  by_cases ha : slot.state = .abortPending
  · rw [if_pos ha, if_pos ha]
    rfl
  · rw [if_neg ha, if_neg ha]

theorem jamHost_of_none {i : SlotIx} {s : State} (h : s.pool.slots[i] = none) : jamHost i s = s := by
  unfold jamHost
  rw [h]

/-- The slots a jam completes: the QUEUED ones and the granted one, unless its ABORT came first (R40). -/
theorem jamCount_eq {s : State} {x : Txn} (hx : s.engine.txn = some x) :
    jamCount s =
      ((queueOrder s.pool).filter (fun j => (s.pool.slots[j]).isSome)).length +
        match x.claimant with
        | .host i => if (s.pool.slots[i]).any (fun slot => slot.state != .abortPending) then 1 else 0
        | _ => 0 := by
  have hscope : flushScope (fun _ => true) s = (queueOrder s.pool).filter (fun j => (s.pool.slots[j]).isSome) := by
    refine List.filter_congr fun i _ => ?_
    cases s.pool.slots[i] <;> rfl
  unfold jamCount abortIsPending
  rw [hx, hscope]
  dsimp only
  cases x.claimant with
  | host i =>
    cases h : s.pool.slots[i] with
    | none => simp [-Fin.getElem_fin, h]
    | some slot => by_cases ha : slot.state = .abortPending <;> simp [-Fin.getElem_fin, h, ha]
  | poll i => rfl
  | probe n => rfl

theorem bump_indLine (c : Counter) (s : State) : (bump c s).status.indLine = s.status.indLine := rfl

/-- What a jam leaves: the granted transaction's end and the flush by port, the engine, the notice and the indicators. -/
theorem enterJammed_blocks {s : State} (hr : s.repeater = false) :
    (enterJammed s).engine.port = .jammed ∧ (enterJammed s).engine.txn = none ∧
    (enterJammed s).engine.jamStart = some s.time.clock ∧
    (enterJammed s).engine.busyLimit = s.config.active.segment.busyLimit ∧
    (enterJammed s).status.indLine = true ∧
    (enterJammed s).pool = (flush (fun _ => true) .lineFault (jamTransaction s)).pool ∧
    (enterJammed s).trunk = (flush (fun _ => true) .lineFault (jamTransaction s)).trunk ∧
    (enterJammed s).calendar =
      { (flush (fun _ => true) .lineFault (jamTransaction s)).calendar with dueList := [] } ∧
    (enterJammed s).notices =
      s.notices.takeRaise .lineFault none (BitVec.ofNat 16 (jamCount s)) s.time.clock := by
  have hraise : (jamStarted (flushPort .lineFault (jamAbandon s))).repeater = false := by
    simpa [jamStarted, jamAbandon, State.repeater] using hr
  rw [enterJammed_eq, raise_of_serving hraise]
  simp [flushPort_jamAbandon, jamStarted, setLineIndicator, Engine.jammed, bump_indLine]

theorem enterJammed_counter (c : Counter) (s : State) :
    (enterJammed s).counter c = if c = .lineFaults then s.counter c + 1#32 else s.counter c := by
  have hinner : ∀ u : State, (setLineIndicator true u).counter c = u.counter c := fun u => rfl
  have hstatus : ∀ (d : Word) (u : State), (raise .lineFault none d u).counter c = u.counter c := by
    intro d u
    rw [State.counter, raise_status]
    rfl
  rw [enterJammed_eq, counter_bump, hinner, hstatus]
  simp [State.counter, jamStarted, jamAbandon]

theorem enterJammed_health (n : NodeIx) (s : State) :
    (enterJammed s).monitor.health[n] =
      if n ∈ s.monitor.probeList then
        ((jamTransaction s).monitor.health[n]).claimDropped s.time.clock (s.config.active.node[n]).probeUnits
      else (jamTransaction s).monitor.health[n] := by
  have hmonitor : (enterJammed s).monitor = (flushPort .lineFault (jamAbandon s)).monitor := by
    rw [enterJammed_eq]
    simp [jamStarted]
  rw [hmonitor, flushPort_jamAbandon, emptyProbeList_health]
  simp [-Fin.getElem_fin]

/-! ### The line's silence (R25, R28) -/

theorem busyInGuard_of_busy {s : State} (hp : s.engine.port = .guard)
    (he : s.engine.busyLimit * 1000 ≤ microsBetween s.engine.guardEntry s.time.clock)
    (hf : microsBetween s.engine.lastActivity s.time.clock + s.engine.busyLimit * 1000 ≤
      microsBetween s.engine.guardEntry s.time.clock + ctMicros s.rate s.engine.guardGap) :
    busyInGuard s = settle (enterJammed s) := by
  refine if_pos ⟨hp, decide_eq_true he, decide_eq_true ?_⟩
  rwa [silence, lastActivity_of_not_sending s (by simp [hp])]

theorem busyInGuard_of_not_busy {s : State} (hp : s.engine.port = .guard)
    (h : microsBetween s.engine.guardEntry s.time.clock < s.engine.busyLimit * 1000 ∨
      microsBetween s.engine.guardEntry s.time.clock + ctMicros s.rate s.engine.guardGap <
        microsBetween s.engine.lastActivity s.time.clock + s.engine.busyLimit * 1000) : busyInGuard s = s := by
  refine if_neg ?_
  rintro ⟨-, he, hf⟩
  have he' := of_decide_eq_true he
  have hf' := of_decide_eq_true hf
  rw [silence, lastActivity_of_not_sending s (by simp [hp])] at hf'
  omega

/-- Out of IDLE a settling is the A-transmit arbiter's decision alone (R6). -/
theorem settle_of_not_idle {s : State} (h : s.engine.port ≠ .idle) : settle s = decideA s :=
  congrArg decideA (if_neg h)

theorem jamSilence_of_silent {s : State} (hp : s.engine.port = .jammed)
    (hb : s.engine.busyLimit * 1000 ≤ microsBetween s.engine.lastActivity s.time.clock) :
    jamSilence s = settle (leaveJammed s) := by
  refine if_pos ⟨hp, decide_eq_true ?_⟩
  rwa [silence, lastActivity_of_not_sending s (by simp [hp])]

/-- The port restored, with the length of the jam (R41). -/
theorem leaveJammed_eq {s : State} {since : Stamp} (hj : s.engine.jamStart = some since) :
    leaveJammed s =
      raise .lineRestored none (wholeMs since s.time.clock)
        { s with
          status := { s.status with indLine := false }
          engine := { s.engine with port := .idle, jamStart := none } } := by
  rw [leaveJammed, hj]
  rfl

/-- The granted transaction's end in a jam, by its claimant (R11, R13, R58). -/
theorem jamTransaction_eq {s : State} {x : Txn} (hx : s.engine.txn = some x) :
    jamTransaction s =
      match x.claimant with
      | .host i =>
        match s.pool.slots[i] with
        | some slot =>
          completeSlot i
            (if slot.state = .abortPending then
              if slot.op = .write ∧ slot.sentOnce = true then .abortedLate else .aborted
            else .lineFault)
            0#8 [] s
        | none => s
      | .poll _ => s
      | .probe n => modifyHealth n (Health.claimDropped s.time.clock (s.config.active.node[n]).probeUnits) s := by
  unfold jamTransaction
  rw [hx]
  dsimp only
  cases x.claimant with
  | host i =>
    dsimp only
    cases hs : s.pool.slots[i] with
    | none => exact jamHost_of_none hs
    | some slot => exact jamHost_of_some hs
  | poll i => rfl
  | probe n => exact dropProbe_eq ..

/-- Settles O47. -/
theorem busyLineJamsPortAndSilenceRestoresIt : Obligations.BusyLineJamsPortAndSilenceRestoresIt := by
  refine ⟨?_, ?_, ?_⟩
  · rintro us silent since x s v w hh hr hp hx rfl rfl he hf hv rfl
    have hrun : exec (.busyLimitInGuard us) s = .next (busyInGuard (advance us s)) := by
      change Host.Outcome.next (running us busyInGuard s) = _
      rw [running, hh]
      rfl
    have hv' : v = jamTransaction (advance us s) := by
      rw [jamTransaction_eq (s := advance us s) hx, hv]
      rfl
    obtain ⟨hport, htxn, hstart, hlimit, hline, hpool, htrunk, hcal, hnotices⟩ := enterJammed_blocks (s := advance us s) hr
    obtain ⟨hu, hn, hb, -, hl⟩ := enterJammed_clear (advance us s)
    refine ⟨enterJammed (advance us s), ?_, hport, htxn, hstart, hlimit, hline, fun c => enterJammed_counter c _,
      hv' ▸ hpool, hv' ▸ htrunk, hv' ▸ hcal, hu, hn, hb, hl, fun n => ?_, ?_, by simp, by simp⟩
    · rw [hrun, busyInGuard_of_busy (s := advance us s) hp he hf, settle_of_not_idle (by simp [hport])]
    · rw [hv']
      exact enterJammed_health n _
    · rw [hnotices, jamCount_eq (s := advance us s) hx]
      rfl
  · rintro us silent since s hh hp rfl rfl h
    change Host.Outcome.next (running us busyInGuard s) = _
    rw [running, hh]
    exact congrArg Host.Outcome.next (busyInGuard_of_not_busy hp h)
  · rintro us since s hh hp hj hb
    change Host.Outcome.next (running us jamSilence s) = _
    rw [running, hh]
    exact congrArg Host.Outcome.next
      ((jamSilence_of_silent (s := advance us s) hp hb).trans (congrArg settle (leaveJammed_eq (s := advance us s) hj)))

end Sys2Proof.Machine
end

section
/-! PROOF. Hard reset, and the laws at reset (R22, R47, R65, R86, R126, R140, R155, R167, R176, R177). -/

namespace Sys2Proof.Machine

/-! ### RESET_DONE in an empty queue (R158, R167) -/

/-- A raise into an empty queue that masks nothing makes one UNSENT record (R158). -/
theorem takeRaise_of_empty {q : NoticeQueue} (hm : q.mask = 0#16) (ho : q.ordinary = []) (kind : NoticeKind)
    (node : Option NodeAddr) (detail : Word) (now : Stamp) :
    q.takeRaise kind node detail now = { q with ordinary := [NoticeRecord.make kind node detail now] } := by
  simp [NoticeQueue.takeRaise, hm, ho, Config.noticeCapacity]

/-- The release of reset raises RESET_DONE, except in REPEATER mode (R153, R167, R177). -/
theorem releaseReset_eq (straps : Straps) (s : State) :
    releaseReset straps s =
      { State.blank straps (s.held.getD .pin) with
        pending := s.pending
        notices :=
          { (State.blank straps (s.held.getD .pin)).notices with
            ordinary :=
              if straps.segment = 15 then []
              else [NoticeRecord.make .resetDone none (s.held.getD .pin).detail 0#48] } } := by
  unfold releaseReset raise
  dsimp only
  by_cases h : straps.segment = 15
  · rw [if_pos (by simp [State.repeater, State.blank, Config.repeaterStrap, h]), if_pos h]
    rfl
  · rw [if_neg (by simpa [State.repeater, State.blank, Config.repeaterStrap] using h), if_neg h,
      takeRaise_of_empty rfl rfl]
    rfl

/-- Settles O5. -/
theorem hardResetLosesEverythingAndSetsEveryBlock : Obligations.HardResetLosesEverythingAndSetsEveryBlock := by
  refine ⟨fun straps s => ⟨releaseReset straps s, rfl, ?_⟩, fun source s => ⟨beginReset source s, rfl, ?_⟩⟩
  · rw [releaseReset_eq]
    and_intros <;> rfl
  · refine ⟨?_, rfl, rfl, rfl, rfl, ⟨rfl, rfl, rfl, rfl, rfl, rfl, rfl, rfl, rfl, rfl, rfl, rfl⟩, rfl, ⟨rfl, rfl⟩, rfl,
      ⟨rfl, rfl, rfl, rfl, rfl⟩, rfl⟩
    cases source with
    | powerUp => rfl
    | resetPin =>
      change some (s.held.getD .pin) = _
      cases s.held <;> rfl

/-! ### The laws at reset -/

theorem portConsistent_reset : PortConsistent State.reset := by
  simp [PortConsistent, State.reset, State.blank, Config.repeaterStrap]

theorem oneNoticeInFlight_reset : OneNoticeInFlight State.reset := by
  simp [OneNoticeInFlight, flights, State.reset, State.blank, NoticeRecord.powerOn]

theorem poolConsistent_reset : PoolConsistent State.reset :=
  (poolConsistent_iff _).2 ⟨poolPlaced_of_empty rfl rfl rfl, tags_of_empty rfl rfl⟩

theorem monitorConsistent_reset : MonitorConsistent State.reset := by
  have hhealth : ∀ n : NodeIx, State.reset.monitor.health[n] = Health.cleared .absent := fun n => by
    simp [State.reset, State.blank]
  have hnode : ∀ n : NodeIx, (State.reset.config.active.node[n]).present = false := fun n => by
    simp [State.reset, State.blank, Tables.cleared]
  have hstate : ∀ n : NodeIx, (State.reset.monitor.health[n]).state = .absent := fun n => by rw [hhealth]; rfl
  have hclaim : ∀ n : NodeIx, (State.reset.monitor.health[n]).claim = .none := fun n => by rw [hhealth]; rfl
  have hdue : ∀ n : NodeIx, (State.reset.monitor.health[n]).probeDue = none := fun n => by rw [hhealth]; rfl
  have hsince : ∀ n : NodeIx, (State.reset.monitor.health[n]).offlineSince = none := fun n => by rw [hhealth]; rfl
  have hlist : State.reset.monitor.probeList = [] := rfl
  have hind : State.reset.status.indNode = false := rfl
  have hduelist : State.reset.calendar.dueList = [] := rfl
  refine ⟨⟨fun n => ?_, fun n => ?_, ?_⟩, ?_, ?_, fun _ => rfl⟩
  · simp only [hstate, hnode]
  · simp only [hstate, hsince, Option.isSome_none, reduceCtorEq]
  · simp only [hstate, hind, reduceCtorEq, exists_const]
  · simp only [ClaimsAreHeld, hstate, hclaim, hdue, hlist, List.nodup_nil, List.not_mem_nil, Option.isSome_none,
      reduceCtorEq, Bool.false_eq_true, or_self, false_implies, iff_self, implies_true, and_self]
  · simp only [DueListServes, hduelist, List.nodup_nil, List.not_mem_nil, false_implies, implies_true, and_self]

/-- Settles O60. -/
theorem resetMeetsEveryLaw : Obligations.ResetMeetsEveryLaw := by
  refine ⟨portConsistent_reset, noClaim_of_clear ⟨rfl, rfl, rfl, rfl, rfl⟩, ?_, ?_, oneNoticeInFlight_reset,
    poolConsistent_reset, monitorConsistent_reset, ⟨cleared_inRange, cleared_inRange, Nat.zero_le _⟩⟩
  · exact ⟨Nat.zero_le _, Nat.zero_le _, (by decide : 1 ≤ 24), Nat.zero_le _⟩
  · simp [UrgentSlotsReserved, ordinarySlots, State.reset, State.blank]

end Sys2Proof.Machine
end

section
/-! PROOF. The end of a transmission on A, the replies' frames, and ABORT (R15, R20, R89, R102, R125, R128, R133, R134, R151,
R155, R162, R163). -/

namespace Sys2Proof.Machine

/-! ### The end of a transmission on A (R151, R155, R162, R163) -/

theorem exec_aTransmitEnd {s : State} (hh : s.held = none) (us : Nat) :
    exec (.aTransmitEnd us) s = .next (transmissionAEnds (advance us s)) := by
  change Host.Outcome.next (running us transmissionAEnds s) = _
  rw [running, hh]
  rfl

theorem transmissionAEnds_of_some {s : State} {tx : ATransmission} (h : s.trunk.aTx = some tx) :
    transmissionAEnds s = decideA (completeA tx { s with trunk := { s.trunk with aTx := none } }) := by
  unfold transmissionAEnds
  rw [h]

theorem transmissionAEnds_of_none {s : State} (h : s.trunk.aTx = none) : transmissionAEnds s = s := by
  unfold transmissionAEnds
  rw [h]

/-- A grant of the UP relay is completed even where a reset has cut its frame (R155). -/
theorem completeA_upRelay {tx : ATransmission} (h : tx.claimant = .upRelay) (s : State) :
    completeA tx s = addCount .upRelayed 1 { s with trunk := { s.trunk with upQueue := s.trunk.upQueue.tail } } := by
  unfold completeA
  rw [h]
  rfl

theorem completeA_upstream {tx : ATransmission} (h : tx.claimant = .upstream) (hl : tx.live = true) (s : State) :
    completeA tx s = upstreamSent s := by
  unfold completeA
  rw [h, hl]
  rfl

theorem completeA_notice {tx : ATransmission} (h : tx.claimant = .notice) (hl : tx.live = true) (s : State) :
    completeA tx s = noticeSent s := by
  unfold completeA
  rw [h, hl]
  rfl

/-- A frame cut from its entry or record by a soft reset completes nothing (R155, R162). -/
theorem completeA_of_cut {tx : ATransmission} (h : tx.claimant ≠ .upRelay) (hl : tx.live = false) (s : State) :
    completeA tx s = s := by
  unfold completeA
  rw [hl]
  cases hc : tx.claimant with
  | upRelay => exact absurd hc h
  | upstream => rfl
  | notice => rfl

theorem upstreamSent_slot {i : SlotIx} {frame : Option (List Byte)} {rest : List UpEntry} {s : State}
    (h : s.trunk.upstream = { item := .slot i, frame := frame } :: rest) :
    upstreamSent s = freeSlot i { s with trunk := { s.trunk with upstream := rest } } := by
  unfold upstreamSent
  rw [h]

theorem upstreamSent_immediate {r : Reply} {frame : Option (List Byte)} {rest : List UpEntry} {s : State}
    (h : s.trunk.upstream = { item := .immediate r, frame := frame } :: rest) :
    upstreamSent s = { s with trunk := { s.trunk with upstream := rest } } := by
  unfold upstreamSent
  rw [h]

theorem noticeSent_of_some {x : Flight} {s : State} (h : s.notices.inFlight.bind NoticeRecord.flight = some x) :
    noticeSent s =
      addCount (if x.sentBefore then .noticesResent else .noticesSent) 1
        { s with
          notices :=
            { s.notices.markSent with
              resend := some (s.time.clock + ms s.config.active.segment.resendInterval) } } := by
  unfold noticeSent
  rw [h]
  rfl

theorem noticeSent_of_none {s : State} (h : s.notices.inFlight = none) : noticeSent s = s := by
  unfold noticeSent
  rw [h]
  rfl

/-- Settles O8. -/
theorem aTransmitEndCompletesGrant : Obligations.ATransmitEndCompletesGrant := by
  refine ⟨fun us bytes live s hh ht => ?_, fun us bytes i frame rest s hh ht hu => ?_,
    fun us bytes r frame rest s hh ht hu => ?_, fun us bytes x s hh ht hx => ?_, fun us bytes s hh ht hx => ?_,
    fun us tx s hh ht hl hc => ?_, fun us s hh ht => ?_⟩ <;> rw [exec_aTransmitEnd hh]
  · rw [transmissionAEnds_of_some (s := advance us s) ht, completeA_upRelay rfl]
    rfl
  · rw [transmissionAEnds_of_some (s := advance us s) ht, completeA_upstream rfl rfl, upstreamSent_slot (by exact hu)]
    rfl
  · rw [transmissionAEnds_of_some (s := advance us s) ht, completeA_upstream rfl rfl,
      upstreamSent_immediate (by exact hu)]
    rfl
  · rw [transmissionAEnds_of_some (s := advance us s) ht, completeA_notice rfl rfl, noticeSent_of_some (by exact hx)]
    rfl
  · rw [transmissionAEnds_of_some (s := advance us s) ht, completeA_notice rfl rfl, noticeSent_of_none (by exact hx)]
    rfl
  · rw [transmissionAEnds_of_some (s := advance us s) ht, completeA_of_cut hc hl]
    rfl
  · rw [transmissionAEnds_of_none (s := advance us s) ht]

/-! ### Replies and their frames (R20, R89, R133, R134) -/

/-- The second byte of an own frame: the segment in its upper nibble, flags 0 (R128, R130). -/
theorem segmentFlags_zero (segment : Fin 16) : segmentFlags segment 0#4 = BitVec.ofNat 8 (segment.val * 16) := by
  revert segment
  decide

theorem slotSource_eq (attempts : Nat) :
    slotSource attempts = if attempts = 0 then 0x30#8 else BitVec.ofNat 8 (16 + attempts) := by
  unfold slotSource sourceByte
  by_cases h : attempts = 0
  · simp [h]
  · rw [if_pos (by omega), if_neg h]

/-- Settles O14. -/
theorem replyJoinsUpstreamTailAndIsCounted : Obligations.ReplyJoinsUpstreamTailAndIsCounted := by
  refine ⟨fun tag node status detail body s => ⟨rfl, fun c => counter_bump .immediateReplies c _, rfl⟩,
    fun r s h => ?_, fun r age s h => ?_, fun bytes stamp s => ⟨rfl, rfl⟩, fun i slot o s hs ho => ?_⟩
  · simp [buildFrame, immediateFrame, ownHeader, segmentFlags_zero, h, immediateSource, sourceByte, kindReply, hostTime]
  · simp [buildFrame, immediateFrame, ownHeader, segmentFlags_zero, h, immediateSource, sourceByte, kindReply, hostTime]
  · have hbind : (s.pool.slots[i]).bind (fun slot => slot.outcome.map (slotFrame s slot)) = some (slotFrame s slot o) := by
      rw [hs, Option.bind_some, ho, Option.map_some]
    unfold buildFrame
    dsimp only
    rw [hbind]
    simp [slotFrame, ownHeader, segmentFlags_zero, slotSource_eq, kindReply, hostTime, bytesOf]

/-! ### ABORT (R15, R102, R125) -/

theorem slotOfTag_some {s : State} {tag : Tag} {i : SlotIx} (h : slotOfTag s tag = some i) :
    ∃ slot, s.pool.slots[i] = some slot ∧ slot.tag = tag := by
  rw [slotOfTag] at h
  have hany := List.find?_some h
  obtain ⟨slot, hs, ht⟩ := (Option.any_eq_true _ _).1 hany
  exact ⟨slot, hs, by simpa using ht⟩

/-- A direct ABORT that finds a place is decided by its form, its own tag and its target, in this order (R102). -/
theorem exec_abort {t : Arrival} {f : AbortFrame} {s : State} (hs : Serving s) (hp : placesFull s = false)
    (hl : (downstreamBytes s.segment (.abort f)).length ≤ 96) :
    exec (.abort t f) s =
      .next
        (decideA
          (match abortFormFault f with
          | some d => answer f.tag f.node .badRequest d.code [] (s.atFrame t)
          | none =>
            if tagInUse s (tagOf f.tag) then answer f.tag f.node .duplicateTag 0#8 [] (s.atFrame t)
            else abortEffect f (s.atFrame t))) := by
  change Host.Outcome.next (takeDirect t (.abort f) (intakeAbort f) s) = _
  rw [takeDirect_of_serving _ hs hl, intakeAbort, placesFull_atFrame, hp, tagInUse_atFrame]
  rfl

/-- An ABORT that passes its checks acts on its target. -/
theorem exec_abort_of_formed {t : Arrival} {f : AbortFrame} {s : State} (hs : Serving s) (hp : placesFull s = false)
    (hf : abortFormFault f = none) (ht : tagInUse s (tagOf f.tag) = false) :
    exec (.abort t f) s = .next (decideA (abortEffect f (s.atFrame t))) := by
  rw [exec_abort hs hp (abortFormed_length hf _), hf, ht]
  rfl

theorem abortTarget_of_slot {s : State} {tag : Tag} {i : SlotIx} {slot : Slot} (hi : slotOfTag s tag = some i)
    (hs : s.pool.slots[i] = some slot) :
    abortTarget s tag =
      match slot.state with
      | .queued => .queued i
      | .active => .active i
      | _ => .nothing := by
  unfold abortTarget
  rw [hi]
  dsimp only
  rw [hs, Option.map_some]
  cases slot.state <;> rfl

theorem abortTarget_of_commit {s : State} {tag : Tag} {id : Byte} (hi : slotOfTag s tag = none)
    (hs : s.config.session = .commitPending id tag) : abortTarget s tag = .commit id tag := by
  unfold abortTarget
  rw [hi, hs]
  exact if_pos rfl

theorem abortTarget_of_none {s : State} {tag : Tag} (hi : slotOfTag s tag = none)
    (hs : s.config.session.heldTag ≠ some tag) : abortTarget s tag = .nothing := by
  unfold abortTarget
  rw [hi]
  dsimp only
  split
  · next id held hc =>
    refine if_neg fun h => hs ?_
    rw [hc, h]
    rfl
  · rfl

/-- The form check of ABORT with the detail codes of R102. -/
theorem abortFormFault_code (f : AbortFrame) :
    (abortFormFault f).map BadRequest.code =
      if f.tail ≠ [] then some 1#8
      else if 64 ≤ f.tag.toNat then some 2#8
      else if f.flags ≠ 0#4 then some 3#8
      else if f.node ≠ 0#8 then some 4#8
      else if 64 ≤ f.target.toNat then some 10#8
      else none := by
  have h64 : ∀ n : Nat, 63 < n ↔ 64 ≤ n := fun n => Nat.lt_iff_add_one_le
  unfold abortFormFault
  simp only [h64]
  repeat' split
  all_goals rfl

/-- Settles O22. -/
theorem abortActsOnItsTarget : Obligations.AbortActsOnItsTarget := by
  refine ⟨abortFormFault_code, fun tag s => ⟨fun i => slotOfTag_some, slotOfTag_eq_none⟩, fun d t f s hs hp hl hd => ?_,
    fun t f s hs hp hf ht => ?_, fun t f i slot s hs hp hf ht hi hslot => ?_, fun t f id tag s hs hp hf ht hi hc htag => ?_,
    fun t f s hs hp hf ht hi hc => ?_⟩
  · rw [exec_abort hs hp (fits_length hl _), hd]
  · rw [exec_abort hs hp (abortFormed_length hf _), hf, ht]
    rfl
  · have htarget := abortTarget_of_slot (s := s.atFrame t) ((slotOfTag_atFrame ..).trans hi) hslot
    rw [exec_abort_of_formed hs hp hf ht, abortEffect, htarget]
    refine ⟨fun hq => ?_, fun ha => ?_, fun hr => ?_⟩
    · rw [hq]
      rfl
    · rw [ha]
      dsimp only
      rw [modifySlot_of_some _ (s := s.atFrame t) hslot]
      rfl
    · rcases hr with hr | hr <;> rw [hr]
  · subst htag
    rw [exec_abort_of_formed hs hp hf ht, abortEffect,
      abortTarget_of_commit (s := s.atFrame t) ((slotOfTag_atFrame ..).trans hi) hc]
    rfl
  · rw [exec_abort_of_formed hs hp hf ht, abortEffect,
      abortTarget_of_none (s := s.atFrame t) ((slotOfTag_atFrame ..).trans hi) hc]

end Sys2Proof.Machine
end

section
/-! PROOF. SEGMENT_RESET, and the grant decision (R6 to R9, R23, R48, R66, R87, R107, R127, R140, R155, R168, R178). -/

namespace Sys2Proof.Machine

/-! ### The soft reset of each block (R178) -/

/-- The drop engine keeps the port of a frame being sent or of an isolation, and nothing of its transaction (R48). -/
theorem engineSoftReset_eq (ended : Nat) (e : Engine) :
    e.softReset ended =
      { e with
        port :=
          match e.port with
          | .sending => .sending
          | .isolated => .isolated
          | _ => .idle
        txn := none, deadline := none, endOfRequest := none, firstChar := none, rxBuffer := [], discard := none
        discardStart := none, pendingIsolate := none, jamStart := none
        txFrame := if e.port = .sending then e.txFrame.take (ended + 1) else []
        txStart := if e.port = .sending then e.txStart else none } := by
  unfold Engine.softReset PortState.afterReset
  rfl

/-- A node stays ABSENT or DISABLED and is UNKNOWN otherwise, with its record cleared (R66). -/
theorem healthSoftReset_eq (h : Health) :
    h.softReset =
      { state :=
          match h.state with
          | .absent => .absent
          | .disabled => .disabled
          | _ => .unknown
        failures := 0, successCount := 0#32, failureCount := 0#32, lastLatency := none, maxLatency := none
        offlineSince := none, probeDue := none, claim := .none } := by
  unfold Health.softReset
  cases h.state <;> rfl

/-- A frame on A stays live if it is a relayed one alone (R155). -/
theorem transmissionSoftReset_eq (tx : ATransmission) :
    tx.softReset = { tx with live := if tx.claimant = .upRelay then tx.live else false } := by
  obtain ⟨claimant, bytes, live⟩ := tx
  cases claimant <;> rfl

/-! ### A broadcast SEGMENT_RESET (R107) -/

theorem exec_segmentReset_broadcast (t : Arrival) (f : ManageFrame) (s : State) :
    exec (.segmentReset t .broadcast f) s =
      .next
        (takeBroadcast t (.manage 0x72#8 f)
          (intakeBroadcastManage .segmentReset (fun _ => broadcastSegmentReset) f) s) := rfl

/-- Settles O38. -/
theorem segmentResetSoftResetsEveryBlock : Obligations.SegmentResetSoftResetsEveryBlock := by
  refine ⟨fun s => ⟨softReset s, rfl, rfl, rfl, rfl, rfl, rfl, engineSoftReset_eq .., fun n => ?_, rfl, rfl, rfl, ?_, rfl,
    rfl, rfl⟩, fun t f s hs hp => ?_, fun t f s hs hf ha => ?_, fun t f s hs hl hr => ?_⟩
  · refine Eq.trans ?_ (healthSoftReset_eq _)
    simp [softReset, Monitor.softReset]
  · simp only [softReset, Trunk.softReset, funext transmissionSoftReset_eq]
  · exact congrArg Host.Outcome.next (takeManage_of_passes t ownSegmentReset hs hp)
  · rw [exec_segmentReset_broadcast]
    have htake := takeBroadcastManage_of_passes (code := .segmentReset) t (fun _ => broadcastSegmentReset) hs hf
      (by rw [ha]; rfl)
    rw [show ManageCode.segmentReset.byte = 0x72#8 from rfl] at htake
    rw [htake]
    rfl
  · have hrefused : (manageFormFault f).isSome = true ∨ f.args.length ≠ ManageCode.segmentReset.argLength := by
      refine hr.imp (fun h => Option.isSome_iff_ne_none.2 h) fun h he => h (List.length_eq_zero_iff.1 he)
    rw [exec_segmentReset_broadcast, takeBroadcast_of_serving _ hs (fits_length hl _), intakeBroadcastManage,
      if_pos hrefused]
    rfl

/-! ### The grant decision (R6 to R9) -/

theorem decideDrop_of_none {s : State} (hp : s.engine.port = .idle) (h : chooseGrant s = none) : decideDrop s = s := by
  unfold decideDrop
  rw [if_pos hp, h]

theorem decideDrop_of_some {s : State} {g : Grant} (hp : s.engine.port = .idle) (h : chooseGrant s = some g) :
    decideDrop s = takeGrant g s := by
  unfold decideDrop
  rw [if_pos hp, h]

/-- With no claim of a higher rank, NORMAL and BULK are chosen by the bulk credit (R7, R8). -/
theorem chooseGrant_ordinary {s : State} (hu : s.pool.urgent = []) (hd : s.calendar.dueList = [])
    (hl : s.monitor.probeList = []) :
    chooseGrant s =
      chooseOrdinary s.pool.normal s.pool.bulk s.pool.credit s.config.active.segment.bulkShare := by
  unfold chooseGrant
  rw [hu, hd, hl]

/-- NORMAL alone waits: it is granted and the credit stays (R8). -/
theorem chooseOrdinary_normal (i : SlotIx) (rest : List SlotIx) (credit share : Nat) :
    chooseOrdinary (i :: rest) [] credit share = some (.normal i rest credit) := rfl

/-- Both wait and there is credit: NORMAL is granted and spends it (R8). -/
theorem chooseOrdinary_credit_left {bulk : List SlotIx} (hb : bulk ≠ []) {credit share : Nat} (h : credit < share)
    (i : SlotIx) (rest : List SlotIx) :
    chooseOrdinary (i :: rest) bulk credit share = some (.normal i rest (credit + 1)) := by
  cases bulk with
  | nil => exact absurd rfl hb
  | cons b bs => exact if_pos h

/-- BULK alone waits, or the credit is spent: it is granted (R8). -/
theorem chooseOrdinary_bulk {normal : List SlotIx} {credit share : Nat} (h : normal = [] ∨ share ≤ credit) (i : SlotIx)
    (rest : List SlotIx) : chooseOrdinary normal (i :: rest) credit share = some (.bulk i rest) := by
  cases normal with
  | nil => rfl
  | cons n ns => exact if_neg (Nat.not_lt.2 (h.resolve_left (List.cons_ne_nil n ns)))

/-! ### The credit through a grant (R8) -/

@[simp] theorem countAttempt_credit (t : Txn) (s : State) : (countAttempt t s).pool.credit = s.pool.credit := by
  unfold countAttempt
  split <;> simp

@[simp] theorem enterGuard_credit (t : Txn) (s : State) : (enterGuard t s).pool.credit = s.pool.credit := by
  have hentered : (guardEntered t s).pool.credit = s.pool.credit := rfl
  unfold enterGuard
  split
  · unfold beginAttempt
    dsimp only
    split <;> simp
  · exact hentered

@[simp] theorem grantHost_credit (i : SlotIx) (s : State) : (grantHost i s).pool.credit = s.pool.credit := by
  unfold grantHost
  split <;> simp

/-- A grant of ranks 1 to 3 leaves the credit (R8). -/
theorem decideDrop_credit {s : State}
    (h : s.pool.urgent ≠ [] ∨ s.calendar.dueList ≠ [] ∨ s.monitor.probeList ≠ []) :
    (decideDrop s).pool.credit = s.pool.credit := by
  by_cases hp : s.engine.port = .idle
  · cases hu : s.pool.urgent with
    | cons i rest =>
      rw [decideDrop_of_some (g := .urgent i rest) hp (by rw [chooseGrant, hu])]
      simp [takeGrant]
    | nil =>
      cases hd : s.calendar.dueList with
      | cons i rest =>
        rw [decideDrop_of_some (g := .poll i rest) hp (by rw [chooseGrant, hu, hd])]
        simp [takeGrant, grantPoll]
      | nil =>
        cases hl : s.monitor.probeList with
        | cons n rest =>
          rw [decideDrop_of_some (g := .probe n rest) hp (by rw [chooseGrant, hu, hd, hl])]
          simp [takeGrant, grantProbe]
        | nil => simp [hu, hd, hl] at h
  · rw [decideDrop, if_neg hp]

theorem grantHost_of_some {i : SlotIx} {slot : Slot} {s : State} (h : s.pool.slots[i] = some slot) :
    grantHost i s =
      enterGuard (hostTxn s i slot)
        { s with
          pool := { s.pool with slots := s.pool.slots.set i.val (some { slot with state := .active }) i.isLt } } := by
  unfold grantHost
  rw [h]
  dsimp only
  rw [modifySlot_of_some _ h]
  rfl

/-- Settles O39. -/
theorem grantFollowsRankAndBulkCredit : Obligations.GrantFollowsRankAndBulkCredit := by
  refine ⟨fun s h => if_neg h, fun s hp hu hd hl hn hb => ?_, fun i rest s hp hu => ?_, fun i rest s hp hu hd => ?_,
    fun n rest s hp hu hd hl => ?_, fun s hp hu hd hl => ⟨fun i rest hn hb => ?_, fun i rest hn hb hc => ?_,
      fun i rest hb hc => ?_⟩, fun s => decideDrop_credit, fun s => rfl, rfl, fun i slot s => grantHost_of_some⟩
  · exact decideDrop_of_none hp (by rw [chooseGrant_ordinary hu hd hl, hn, hb]; rfl)
  · exact decideDrop_of_some (g := .urgent i rest) hp (by rw [chooseGrant, hu])
  · exact decideDrop_of_some (g := .poll i rest) hp (by rw [chooseGrant, hu, hd])
  · exact decideDrop_of_some (g := .probe n rest) hp (by rw [chooseGrant, hu, hd, hl])
  · refine decideDrop_of_some (g := .normal i rest s.pool.credit) hp ?_
    rw [chooseGrant_ordinary hu hd hl, hn, hb, chooseOrdinary_normal]
  · refine decideDrop_of_some (g := .normal i rest (s.pool.credit + 1)) hp ?_
    rw [chooseGrant_ordinary hu hd hl, hn, chooseOrdinary_credit_left hb hc]
  · refine decideDrop_of_some (g := .bulk i rest) hp ?_
    rw [chooseGrant_ordinary hu hd hl, hb, chooseOrdinary_bulk hc]

end Sys2Proof.Machine
end

section
/-! PROOF. The end of the request frame and of a SENDING tail, and the own characters that have ended (R1, R25, R29, R30,
R48). -/

namespace Sys2Proof.Machine

/-! ### The frame sent whole (R24, R29) -/

theorem exec_requestFrameSent {s : State} (hh : s.held = none) (us : Nat) :
    exec (.requestFrameSent us) s = .next (frameSent (advance us s)) := by
  change Host.Outcome.next (running us frameSent s) = _
  rw [running, hh]
  rfl

theorem exec_sendingTailEnd {s : State} (hh : s.held = none) (us : Nat) :
    exec (.sendingTailEnd us) s = .next (tailEnd (advance us s)) := by
  change Host.Outcome.next (running us tailEnd s) = _
  rw [running, hh]
  rfl

/-- The frame has ended where its characters' time has passed by the instant of the event (R29). -/
theorem frameEnded_advance_iff {s : State} {start : Stamp} (us : Nat) (hs : s.engine.txStart = some start) :
    frameEnded (advance us s) = true ↔
      ctMicros s.rate s.engine.txFrame.length ≤ (s.time.clock + BitVec.ofNat 48 us - start).toNat :=
  frameEnded_iff (advance us s) start hs

theorem frameSent_of_ended {s : State} {x : Txn} (hp : s.engine.port = .sending) (hx : s.engine.txn = some x)
    (he : frameEnded s = true) : frameSent s = requestSent x s := by
  unfold frameSent
  rw [hp, hx]
  exact if_pos he

theorem frameSent_of_not_ended {s : State} (he : frameEnded s = false) : frameSent s = s := by
  unfold frameSent
  split
  · rw [he]
    rfl
  · rfl

theorem tailEnd_of_ended {s : State} (hp : s.engine.port = .sending) (hx : s.engine.txn = none)
    (he : frameEnded s = true) : tailEnd s = settle (leaveTail s) := if_pos ⟨hp, hx, he⟩

theorem tailEnd_of_not_ended {s : State} (he : frameEnded s = false) : tailEnd s = s :=
  if_neg fun ⟨_, _, h⟩ => by rw [he] at h; cases h

/-! ### Sent-once (R1, R30) -/

theorem markSent_host {x : Txn} {i : SlotIx} {slot : Slot} {s : State} (hx : x.claimant = .host i)
    (hs : s.pool.slots[i] = some slot) :
    markSent x s =
      { s with
        pool := { s.pool with slots := s.pool.slots.set i.val (some { slot with sentOnce := true }) i.isLt } } := by
  unfold markSent
  rw [hx]
  exact modifySlot_of_some _ hs

theorem markSent_of_not_host {x : Txn} {s : State} (hx : ∀ i, x.claimant ≠ .host i) : markSent x s = s := by
  unfold markSent
  split
  · next i hi => exact absurd hi (hx i)
  · rfl
  · rfl

/-- Sent-once is a field of the slot alone, which the entry into AWAITING does not read. -/
theorem enterAwaiting_markSent (t x : Txn) (s : State) :
    enterAwaiting t (markSent x s) = markSent x (enterAwaiting t s) := by
  unfold markSent
  split <;> rfl

/-! ### The end of the request frame (R29, R30) -/

/-- The line released and the end-of-request stamp set (R30). -/
def requestEnded (s : State) : State :=
  { releaseLine s with engine := { (releaseLine s).engine with endOfRequest := some s.time.clock } }

theorem requestSent_broadcast {x : Txn} (h : x.node.val = 31) (s : State) :
    requestSent x s = settle (deliver x (.ok []) (markSent x (requestEnded s))) := if_pos h

/-- A request to one node awaits its response for the window of its entry, or the one granted (R30). -/
theorem requestSent_node {x : Txn} {n : NodeIx} (h : nodeIx? x.node = some n) (s : State) :
    requestSent x s =
      markSent x
        { s with
          engine :=
            { clearAttempt (releaseLine s).engine with
              port := .awaiting, endOfRequest := some s.time.clock
              deadline :=
                some
                  (s.time.clock +
                    ms (if (s.config.active.node[n]).present then (s.config.active.node[n]).window
                      else x.window.getD 0)) } } := by
  have h31 : x.node.val ≠ 31 := by
    intro h31
    simp [nodeIx?, h31] at h
  have hwindow : responseWindow (requestEnded s) x =
      if (s.config.active.node[n]).present then (s.config.active.node[n]).window else x.window.getD 0 := by
    unfold responseWindow
    rw [h]
    rfl
  have hstate : requestSent x s = enterAwaiting x (markSent x (requestEnded s)) := if_neg h31
  rw [hstate, enterAwaiting_markSent, enterAwaiting, hwindow]
  rfl

/-! ### The end of a SENDING tail (R48) -/

theorem leaveTail_idle {s : State} (h : s.engine.pendingIsolate = none) :
    leaveTail s = { releaseLine s with engine := { (releaseLine s).engine with port := .idle } } := by
  have h' : (releaseLine s).engine.pendingIsolate = none := h
  rw [leaveTail]
  dsimp only
  rw [h']

theorem leaveTail_isolate {s : State} {tag : Tag} (h : s.engine.pendingIsolate = some tag) :
    leaveTail s = isolateForPending tag (releaseLine s) := by
  have h' : (releaseLine s).engine.pendingIsolate = some tag := h
  rw [leaveTail]
  dsimp only
  rw [h']

/-- What the isolation of a pending DROP_ISOLATE leaves of the engine and of the blocks that it does not flush (R44). -/
theorem isolateForPending_blocks (tag : Tag) (s : State) :
    (isolateForPending tag s).engine.port = .isolated ∧ (isolateForPending tag s).engine.pendingIsolate = none ∧
    (isolateForPending tag s).engine.dropDE = false ∧
    (isolateForPending tag s).engine.lastActivity = s.engine.lastActivity ∧
    (isolateForPending tag s).config = s.config ∧ (isolateForPending tag s).notices = s.notices ∧
    (isolateForPending tag s).time = s.time := by
  have hengine : (isolateForPending tag s).engine =
      { clearAttempt s.engine with
        port := .isolated, txn := none, pendingIsolate := none, jamStart := none, txFrame := [], txStart := none
        dropDE := false } := by
    simp [isolateForPending, isolate]
  rw [hengine]
  exact ⟨rfl, rfl, rfl, rfl, by simp, by simp [isolateForPending, isolate], by simp⟩

/-- The reply to the pending DROP_ISOLATE follows the entries of the flush (R44). -/
theorem isolateForPending_last (tag : Tag) (s : State) :
    (isolateForPending tag s).trunk.upstream.getLast?.map UpEntry.item =
      some
        (.immediate
          { tag := BitVec.ofNat 8 tag.val, node := 0#8, status := .ok, detail := 0#8, source := .controller
            stamp := s.time.clock, body := [.raw [6#8]] }) := by
  have htime : (isolate id s).time = s.time := by simp [isolate]
  rw [isolateForPending, isolate_eq, deferredReply, answer, htime]
  simp [placeReply, enqueueUp, PortState.code]

/-! ### The own characters that have ended (R25) -/

theorem le_ownCharsEnded_iff {start : Stamp} {s : State} (h : s.engine.txStart = some start) (n : Nat) :
    n ≤ ownCharsEnded s ↔ n ≤ s.engine.txFrame.length ∧ ctMicros s.rate n ≤ (s.time.clock - start).toNat := by
  simp only [ownCharsEnded, sendingFor, h, Option.map_some, Option.getD_some, le_min_iff, le_charsEndedIn_iff]
  rfl

/-- Settles O41. -/
theorem sendingEndsInAwaitingOrOk : Obligations.SendingEndsInAwaitingOrOk := by
  refine ⟨?_, ?_, fun x i slot s => markSent_host, fun x s => markSent_of_not_host, ?_, ?_, ?_,
    fun n start s h => le_ownCharsEnded_iff h n, fun start s hp h => ?_, lastActivity_of_not_sending⟩
  · rintro us start x n e s hh hp hx hn rfl hs hl
    have he : frameEnded (advance us s) = true := (frameEnded_advance_iff us hs).2 hl
    rw [exec_requestFrameSent hh, frameSent_of_ended (s := advance us s) hp hx he, requestSent_node hn]
    rfl
  · intro us start x s hh hp hx hn hs hl
    have he : frameEnded (advance us s) = true := (frameEnded_advance_iff us hs).2 hl
    rw [exec_requestFrameSent hh, frameSent_of_ended (s := advance us s) hp hx he, requestSent_broadcast hn]
    rfl
  · intro us start s hh hp hx hi hs hl
    have he : frameEnded (advance us s) = true := (frameEnded_advance_iff us hs).2 hl
    rw [exec_sendingTailEnd hh, tailEnd_of_ended (s := advance us s) hp hx he, leaveTail_idle (s := advance us s) hi]
    rfl
  · intro us start tag s hh hp hx hi hs hl
    have he : frameEnded (advance us s) = true := (frameEnded_advance_iff us hs).2 hl
    obtain ⟨hport, hpend, hde, hact, hconfig, hnotices, htime⟩ :=
      isolateForPending_blocks tag (releaseLine (advance us s))
    obtain ⟨hu, hn, hb, hd, hl⟩ := isolateForPending_clear tag (releaseLine (advance us s))
    refine ⟨isolateForPending tag (releaseLine (advance us s)), ?_, hport, hpend, hde, hact, hu, hn, hb, hd, hl, hconfig,
      hnotices, htime, isolateForPending_last ..⟩
    rw [exec_sendingTailEnd hh, tailEnd_of_ended (s := advance us s) hp hx he, leaveTail_isolate (s := advance us s) hi,
      settle_of_not_idle (by simp [hport])]
  · intro us start s hh hp hs hl
    have he : frameEnded (advance us s) = false :=
      Bool.eq_false_iff.2 fun h => absurd ((frameEnded_advance_iff us hs).1 h) (Nat.not_le.2 hl)
    rw [exec_requestFrameSent hh, exec_sendingTailEnd hh, frameSent_of_not_ended he, tailEnd_of_not_ended he]
    exact ⟨rfl, rfl⟩
  · split
    · next h0 => simp [State.lastActivity, hp, h, h0]
    · next h0 => exact lastActivity_of_sending s start hp h h0

end Sys2Proof.Machine
end

section
/-! PROOF. What the laws of the drop port and of the Node Monitor read of the state, and the operations that leave it alone
(R26, R49, R50, R55 to R57, R72, R176). -/

namespace Sys2Proof.Machine

/-- What the laws of the drop port and of the Node Monitor read: the port with its transaction, deadline and transmitter, the
two indicators, the health records with the probe list, the ACTIVE bank and the due list. -/
structure DropView where
  port : PortState
  txn : Option Txn
  deadline : Option Stamp
  txStart : Option Stamp
  dropDE : Bool
  indLine : Bool
  indNode : Bool
  monitor : Monitor
  active : Tables
  dueList : List CellIx

/-- The view of a state. -/
def dropView (s : State) : DropView where
  port := s.engine.port
  txn := s.engine.txn
  deadline := s.engine.deadline
  txStart := s.engine.txStart
  dropDE := s.engine.dropDE
  indLine := s.status.indLine
  indNode := s.status.indNode
  monitor := s.monitor
  active := s.config.active
  dueList := s.calendar.dueList

/-- Two states have one view if they agree in each field of it. -/
theorem dropView_eq_iff {s u : State} :
    dropView u = dropView s ↔
      u.engine.port = s.engine.port ∧ u.engine.txn = s.engine.txn ∧ u.engine.deadline = s.engine.deadline ∧
        u.engine.txStart = s.engine.txStart ∧ u.engine.dropDE = s.engine.dropDE ∧
        u.status.indLine = s.status.indLine ∧ u.status.indNode = s.status.indNode ∧ u.monitor = s.monitor ∧
        u.config.active = s.config.active ∧ u.calendar.dueList = s.calendar.dueList := by
  simp only [dropView, DropView.mk.injEq]

/-- An update of the pool, the time, the trunk and the notices leaves the view. -/
theorem dropView_congr {s u : State} (he : u.engine = s.engine) (hs : u.status = s.status) (hm : u.monitor = s.monitor)
    (hc : u.config.active = s.config.active) (hd : u.calendar.dueList = s.calendar.dueList) :
    dropView u = dropView s := by
  simp only [dropView_eq_iff, he, hs, hm, hc, hd, and_self]

/-! ### Time, counters and notices -/

@[simp] theorem dropView_advance (us : Nat) (s : State) : dropView (advance us s) = dropView s := rfl

@[simp] theorem dropView_pending (q : List Instr) (s : State) : dropView { s with pending := q } = dropView s := rfl

@[simp] theorem dropView_bump (c : Counter) (s : State) : dropView (bump c s) = dropView s := rfl

@[simp] theorem dropView_setEpoch (t : Arrival) (f : ManageFrame) (s : State) :
    dropView (setEpoch t f s) = dropView s := rfl

@[simp] theorem dropView_notices (q : NoticeQueue) (s : State) : dropView { s with notices := q } = dropView s := rfl

@[simp] theorem dropView_raise (kind : NoticeKind) (node : Option NodeAddr) (detail : Word) (s : State) :
    dropView (raise kind node detail s) = dropView s := dropView_congr (by simp) (by simp) (by simp) (by simp) (by simp)

/-! ### Replies and the trunk -/

@[simp] theorem dropView_trunk (t : Trunk) (s : State) : dropView { s with trunk := t } = dropView s := rfl

@[simp] theorem dropView_answer (tag node : Byte) (status : Status) (detail : Byte) (body : List Piece) (s : State) :
    dropView (answer tag node status detail body s) = dropView s := rfl

@[simp] theorem dropView_reply (f : ManageFrame) (status : Status) (detail : Byte) (body : List Piece) (s : State) :
    dropView (reply f status detail body s) = dropView s := rfl

@[simp] theorem dropView_deferredReply (tag : Tag) (status : Status) (body : List Piece) (s : State) :
    dropView (deferredReply tag status body s) = dropView s := rfl

@[simp] theorem dropView_badArgument (f : ManageFrame) (s : State) : dropView (badArgument f s) = dropView s := rfl

@[simp] theorem dropView_answerNode (f : ManageFrame) (n : NodeIx) (status : Status) (s : State) :
    dropView (answerNode f n status s) = dropView s := rfl

@[simp] theorem dropView_answerPort (f : ManageFrame) (s : State) : dropView (answerPort f s) = dropView s := rfl

@[simp] theorem dropView_discardFrame (s : State) : dropView (discardFrame s) = dropView s := rfl

@[simp] theorem dropView_raiseRefused (a : NodeAddr) (index : Nat) (s : State) :
    dropView (raiseRefused a index s) = dropView s := dropView_raise ..

@[simp] theorem dropView_serveRead (f : RequestFrame) (i : CellIx) (s : State) :
    dropView (serveRead f i s) = dropView s := rfl

theorem dropView_refuse {effect : State → State} (he : ∀ u, dropView (effect u) = dropView u) (tag node : Byte)
    (status : Status) (detail : Byte) (s : State) : dropView (refuse tag node status detail effect s) = dropView s := by
  unfold refuse
  split
  · rfl
  · exact he _

@[simp] theorem dropView_decideA (s : State) : dropView (decideA s) = dropView s :=
  dropView_congr (by simp) (by simp) (by simp) (by simp) (by simp)

@[simp] theorem dropView_startB (s : State) : dropView (startB s) = dropView s :=
  dropView_congr (by simp) (by simp) (by simp) (by simp) (by simp)

@[simp] theorem dropView_relayDown (bytes : List Byte) (arrival : Stamp) (s : State) :
    dropView (relayDown bytes arrival s) = dropView s := by
  unfold relayDown
  split
  · split <;> simp
  · rfl

@[simp] theorem dropView_relayUp (bytes : List Byte) (s : State) : dropView (relayUp bytes s) = dropView s := by
  unfold relayUp
  split <;> simp

@[simp] theorem dropView_linkAUp (s : State) : dropView (linkAUp s) = dropView s :=
  dropView_congr (by simp) (by simp) (by simp) (by simp) (by simp)

@[simp] theorem dropView_linkADown (s : State) : dropView (linkADown s) = dropView s :=
  dropView_congr (by simp) (by simp) (by simp) (by simp) (by simp)

@[simp] theorem dropView_linkBUp (s : State) : dropView (linkBUp s) = dropView s :=
  dropView_congr (by simp) (by simp) (by simp) (by simp) (by simp)

@[simp] theorem dropView_linkBDown (s : State) : dropView (linkBDown s) = dropView s := by
  unfold linkBDown
  split <;> rfl

@[simp] theorem dropView_transmissionBEnds (s : State) : dropView (transmissionBEnds s) = dropView s := by
  unfold transmissionBEnds
  split <;> simp

@[simp] theorem dropView_noticeSent (s : State) : dropView (noticeSent s) = dropView s := by
  unfold noticeSent
  split <;> rfl

@[simp] theorem dropView_completeA (tx : ATransmission) (s : State) : dropView (completeA tx s) = dropView s := by
  have hup : dropView (upstreamSent s) = dropView s :=
    dropView_congr (by simp) (by simp) (by simp) (by simp) (by simp)
  unfold completeA
  split
  · rfl
  · split
    · exact hup
    · rfl
  · split
    · exact dropView_noticeSent s
    · rfl

@[simp] theorem dropView_transmissionAEnds (s : State) : dropView (transmissionAEnds s) = dropView s := by
  unfold transmissionAEnds
  split <;> simp

@[simp] theorem dropView_takeB (f : RawFrame) (s : State) : dropView (takeB f s) = dropView s := by
  unfold takeB
  repeat' split
  all_goals simp

/-! ### The pool and the cells -/

@[simp] theorem dropView_pool (p : Pool) (s : State) : dropView { s with pool := p } = dropView s := rfl

@[simp] theorem dropView_modifySlot (i : SlotIx) (f : Slot → Slot) (s : State) :
    dropView (modifySlot i f s) = dropView s := rfl

@[simp] theorem dropView_leaveQueues (p : SlotIx → Bool) (s : State) : dropView (leaveQueues p s) = dropView s := rfl

@[simp] theorem dropView_admitSlot (r : Slot) (s : State) : dropView (admitSlot r s) = dropView s := by
  cases h : firstFree s with
  | none => rw [admitSlot_of_full h]
  | some i => rw [admitSlot_of_free h]; rfl

@[simp] theorem dropView_completeSlot (i : SlotIx) (status : Status) (detail : Byte) (data : List Word) (s : State) :
    dropView (completeSlot i status detail data s) = dropView s :=
  dropView_congr (by simp) (by simp) (by simp) (by simp) (by simp)

@[simp] theorem dropView_finishHost (i : SlotIx) (result : DropResult) (s : State) :
    dropView (finishHost i result s) = dropView s := by
  unfold finishHost
  split
  · rfl
  · split <;> simp

@[simp] theorem dropView_pollOutcome (key : PollKey) (result : DropResult) (s : State) :
    dropView (pollOutcome key result s) = dropView s := by
  unfold pollOutcome
  dsimp only
  split
  · rfl
  · split
    · rfl
    · split <;> rfl

@[simp] theorem dropView_freshnessPast (i : CellIx) (s : State) : dropView (freshnessPast i s) = dropView s := by
  unfold freshnessPast
  split <;> rfl

/-! ### Sessions -/

@[simp] theorem dropView_closeSession (s : State) : dropView (closeSession s) = dropView s := rfl

@[simp] theorem dropView_withdrawCommit (id : Byte) (tag : Tag) (s : State) :
    dropView (withdrawCommit id tag s) = dropView s := rfl

@[simp] theorem dropView_sessionExpiry (s : State) : dropView (sessionExpiry s) = dropView s := by
  unfold sessionExpiry
  split
  · split
    · simp [expireSession]
    · rfl
  · rfl

@[simp] theorem dropView_resendExpiry (s : State) : dropView (resendExpiry s) = dropView s := by
  unfold resendExpiry
  split <;> simp

/-! ### The line -/

@[simp] theorem dropView_touchLine (s : State) : dropView (touchLine s) = dropView s := rfl

@[simp] theorem dropView_storeChar (ch : LineChar) (s : State) : dropView (storeChar ch s) = dropView s := rfl

@[simp] theorem dropView_stopCollecting (d : DiscardDetail) (s : State) :
    dropView (stopCollecting d s) = dropView s := rfl

@[simp] theorem dropView_takeStray (s : State) : dropView (takeStray s) = dropView s := rfl

@[simp] theorem dropView_holdIsolate (f : ManageFrame) (s : State) : dropView (holdIsolate f s) = dropView s := rfl

@[simp] theorem dropView_cancelPending (s : State) : dropView (cancelPending s) = dropView s := by
  unfold cancelPending
  split <;> rfl

@[simp] theorem dropView_markSent (t : Txn) (s : State) : dropView (markSent t s) = dropView s := by
  unfold markSent
  split <;> rfl

/-! ### Requests that are quiet on the drop port -/

@[simp] theorem dropView_abortEffect (f : AbortFrame) (s : State) : dropView (abortEffect f s) = dropView s := by
  unfold abortEffect
  split <;> simp

@[simp] theorem dropView_ownEditOpen (f : ManageFrame) (s : State) : dropView (ownEditOpen f s) = dropView s := by
  unfold ownEditOpen
  split <;> rfl

@[simp] theorem dropView_ownEditClose (f : ManageFrame) (s : State) : dropView (ownEditClose f s) = dropView s := by
  unfold ownEditClose
  repeat' split
  all_goals rfl

@[simp] theorem dropView_ownEntryWrite (f : ManageFrame) (s : State) : dropView (ownEntryWrite f s) = dropView s := by
  unfold ownEntryWrite
  repeat' split
  all_goals rfl

@[simp] theorem dropView_ownEntryRead (f : ManageFrame) (s : State) : dropView (ownEntryRead f s) = dropView s := by
  unfold ownEntryRead
  repeat' split
  all_goals rfl

@[simp] theorem dropView_ownCommit (f : ManageFrame) (s : State) : dropView (ownCommit f s) = dropView s := by
  unfold ownCommit
  repeat' split
  all_goals rfl

@[simp] theorem dropView_ownNodeRead (f : ManageFrame) (s : State) : dropView (ownNodeRead f s) = dropView s := by
  unfold ownNodeRead
  split <;> rfl

@[simp] theorem dropView_ownCellRead (f : ManageFrame) (s : State) : dropView (ownCellRead f s) = dropView s := by
  unfold ownCellRead
  split <;> rfl

@[simp] theorem dropView_ownNoticeAck (f : ManageFrame) (s : State) : dropView (ownNoticeAck f s) = dropView s := by
  unfold ownNoticeAck
  split <;> rfl

@[simp] theorem dropView_ownNoticeMask (f : ManageFrame) (s : State) : dropView (ownNoticeMask f s) = dropView s := by
  unfold ownNoticeMask
  split <;> rfl

@[simp] theorem dropView_ownCountersRead (f : ManageFrame) (s : State) :
    dropView (ownCountersRead f s) = dropView s := by
  unfold ownCountersRead
  dsimp only
  repeat' split
  all_goals rfl

end Sys2Proof.Machine
end

section
/-! PROOF. What a law of the drop port and the Node Monitor needs to be kept by every step. `DropLaws P` names the operations
that change what such a law reads, each with what its callers know, and `DropLaws.step` derives from it that every step
keeps `P`. -/

namespace Sys2Proof.Machine

/-! ### The laws -/

/-- The operations that a law of the drop port and the Node Monitor has to be kept by. -/
structure DropLaws (P : State → Prop) : Prop where
  of_view : ∀ {s u}, dropView u = dropView s → P s → P u
  at_begin : ∀ source s, P (beginReset source s)
  at_release : ∀ straps s, P (releaseReset straps s)
  of_softReset : ∀ s, P s → P (softReset s)
  of_grant : ∀ t s, s.engine.port = .idle → (∀ n, t.claimant ≠ .probe n) → P s → P (guardEntered t s)
  of_grantProbe : ∀ t n rest s, s.engine.port = .idle → s.monitor.probeList = n :: rest → t.claimant = .probe n → P s →
    P (guardEntered t
      (modifyHealth n (fun h => { h with claim := .active }) { s with monitor := { s.monitor with probeList := rest } }))
  of_dueTail : ∀ i rest s, s.calendar.dueList = i :: rest → P s →
    P { s with calendar := { s.calendar with dueList := rest } }
  of_retry : ∀ t s, s.engine.port = .awaiting ∨ s.engine.port = .receiving → s.engine.txn = some t → P s →
    P (guardEntered t s)
  of_beginAttempt : ∀ t s, s.engine.port = .guard → s.engine.txn = some t → P s → P (beginAttempt t s)
  of_sentBroadcast : ∀ t s, s.engine.port = .sending → s.engine.txn = some t → P s →
    P (deliver t (.ok []) (markSent t (requestEnded s)))
  of_sentNode : ∀ t s, s.engine.port = .sending → s.engine.txn = some t → P s →
    P (enterAwaiting t (markSent t (requestEnded s)))
  of_firstChar : ∀ first s, s.engine.port = .awaiting → P s →
    P { s with engine := { s.engine with port := .receiving, deadline := none, firstChar := first } }
  of_deliver : ∀ t result s, s.engine.port = .awaiting ∨ s.engine.port = .receiving → s.engine.txn = some t → P s →
    P (deliver t result s)
  of_jam : ∀ s, s.engine.port = .guard → P s → P (enterJammed s)
  of_leaveJammed : ∀ s, s.engine.port = .jammed → P s → P (leaveJammed s)
  of_leaveTail : ∀ s, s.engine.port = .sending → s.engine.txn = none → P s → P (leaveTail s)
  of_isolate : ∀ f s, s.engine.port = .idle ∨ s.engine.port = .jammed → P s → P (isolate (answerPort f) s)
  of_isolateInGuard : ∀ f s, s.engine.port = .guard → P s → P (isolate (answerPort f) (returnGrant s))
  of_leaveIsolated : ∀ s, s.engine.port = .isolated → P s → P (leaveIsolated s)
  of_boundary : ∀ s, P s → P (boundary s)
  of_listProbe : ∀ (n : NodeIx) s, (s.monitor.health[n]).probeDue.isSome = true → P s → P (listProbe n s)
  of_armProbe : ∀ (n : NodeIx) s, (s.monitor.health[n]).probeDue.isSome = true → P s → P (armProbe n s)
  of_enable : ∀ (n : NodeIx) s, (s.monitor.health[n]).state = .disabled → P s →
    P (modifyHealth n (fun h => { h with state := .unknown, failures := 0 }) s)
  of_disable : ∀ (n : NodeIx) s, (s.monitor.health[n]).state ≠ .absent → P s → P (disableNode n s)

namespace DropLaws

variable {P : State → Prop} (L : DropLaws P)
include L

/-! ### Grants and attempts (R6 to R9, R26 to R37) -/

theorem keeps_decideA {s : State} (h : P s) : P (decideA s) := L.of_view (dropView_decideA s) h

/-- A law that holds once the engine has entered GUARD holds where it has gone on to SENDING (R27). -/
theorem keeps_enterGuard {t : Txn} {s : State} (h : P (guardEntered t s)) : P (enterGuard t s) := by
  unfold enterGuard
  split
  · exact L.of_beginAttempt t _ rfl rfl h
  · exact h

theorem keeps_grantHost (i : SlotIx) {s : State} (hp : s.engine.port = .idle) (h : P s) : P (grantHost i s) := by
  unfold grantHost
  split
  · exact h
  · exact L.keeps_enterGuard (L.of_grant _ _ hp (by simp [hostTxn]) (L.of_view (dropView_modifySlot ..) h))

theorem keeps_takeGrant {g : Grant} {s : State} (hp : s.engine.port = .idle) (hg : chooseGrant s = some g) (h : P s) :
    P (takeGrant g s) := by
  have hhost : ∀ (p : Pool) i, P (grantHost i { s with pool := p }) := fun p i =>
    L.keeps_grantHost i hp (L.of_view (dropView_pool ..) h)
  cases g with
  | urgent i rest => exact hhost ..
  | poll i rest =>
    have hd : s.calendar.dueList = i :: rest := by
      unfold chooseGrant chooseOrdinary at hg
      repeat' split at hg
      all_goals simp_all
    exact L.keeps_enterGuard (L.of_grant _ _ hp (by simp) (L.of_dueTail i rest s hd h))
  | probe n rest =>
    have hl : s.monitor.probeList = n :: rest := by
      unfold chooseGrant chooseOrdinary at hg
      repeat' split at hg
      all_goals simp_all
    exact L.keeps_enterGuard (L.of_grantProbe _ n rest s hp hl rfl h)
  | normal i rest credit => exact hhost ..
  | bulk i rest => exact hhost ..

theorem keeps_decideDrop {s : State} (h : P s) : P (decideDrop s) := by
  unfold decideDrop
  split
  · next hp =>
    split
    · exact h
    · next hg => exact L.keeps_takeGrant hp hg h
  · exact h

theorem keeps_settle {s : State} (h : P s) : P (settle s) := L.keeps_decideA (L.keeps_decideDrop h)

theorem keeps_decideRetry {t : Txn} {s : State} (result : DropResult)
    (hp : s.engine.port = .awaiting ∨ s.engine.port = .receiving) (ht : s.engine.txn = some t) (h : P s) :
    P (decideRetry t result s) := by
  unfold decideRetry
  split
  · exact L.keeps_enterGuard (L.of_retry t (bump .retries s) hp ht (L.of_view (dropView_bump ..) h))
  · exact L.of_deliver t result s hp ht h

theorem keeps_endCorrupt {t : Txn} {s : State} (d : CorruptDetail)
    (hp : s.engine.port = .awaiting ∨ s.engine.port = .receiving) (ht : s.engine.txn = some t) (h : P s) :
    P (endCorrupt t d s) :=
  L.keeps_decideRetry (s := bump .corruptResponses s) _ hp ht (L.of_view (dropView_bump ..) h)

theorem keeps_endResponse {t : Txn} {s : State} (result : DropResult)
    (hp : s.engine.port = .awaiting ∨ s.engine.port = .receiving) (ht : s.engine.txn = some t) (h : P s) :
    P (endResponse t result s) := by
  unfold endResponse
  split
  · exact L.keeps_endCorrupt _ hp ht h
  · exact L.of_deliver t _ s hp ht h

/-! ### Characters (R25 to R33) -/

theorem keeps_takeFirst (ch : LineChar) {s : State} (hp : s.engine.port = .awaiting) (h : P s) :
    P (takeFirst ch s) := by
  have hs := L.of_view (dropView_storeChar ch _) (L.of_firstChar (some s.time.clock) s hp h)
  unfold takeFirst
  dsimp only
  split
  · exact L.of_view (dropView_stopCollecting ..) hs
  · exact hs

theorem keeps_takeNext {t : Txn} (ch : LineChar) {s : State} (hp : s.engine.port = .receiving)
    (ht : s.engine.txn = some t) (h : P s) : P (takeNext t ch s) := by
  have hs : P (storeChar ch s) := L.of_view (dropView_storeChar ..) h
  unfold takeNext
  split
  · exact L.of_view (dropView_touchLine s) h
  · dsimp only
    split
    · exact L.of_view (dropView_stopCollecting ..) hs
    · split
      · exact hs
      · split
        · exact L.of_view (dropView_stopCollecting ..) hs
        · split
          · exact hs
          · exact L.keeps_endResponse (s := storeChar ch s) _ (.inr hp) ht hs

theorem keeps_takeCharacter (ch : LineChar) {s : State} (h : P s) : P (takeCharacter ch s) := by
  have hstray : P (takeStray s) := L.of_view (dropView_takeStray s) h
  unfold takeCharacter
  split
  · exact hstray
  · exact hstray
  · exact hstray
  · exact h
  · exact h
  · next hp => exact L.keeps_takeFirst ch hp h
  · next hp =>
    split
    · exact h
    · next ht => exact L.keeps_takeNext ch hp ht h

theorem keeps_characterEnds (ch : LineChar) {s : State} (h : P s) : P (characterEnds ch s) := by
  unfold characterEnds
  split
  · exact L.keeps_settle (L.keeps_takeCharacter ch h)
  · exact L.keeps_takeCharacter ch h

/-! ### Events of the drop line -/

theorem keeps_guardSilence {s : State} (h : P s) : P (guardSilence s) := by
  unfold guardSilence
  split
  · next t hp ht =>
    split
    · exact L.of_beginAttempt t s hp ht h
    · exact h
  · exact h

theorem keeps_busyInGuard {s : State} (h : P s) : P (busyInGuard s) := by
  unfold busyInGuard
  split
  · next hp => exact L.keeps_settle (L.of_jam s hp.1 h)
  · exact h

theorem keeps_frameSent {s : State} (h : P s) : P (frameSent s) := by
  unfold frameSent
  split
  · next t hp ht =>
    split
    · unfold requestSent
      dsimp only
      split
      · exact L.keeps_settle (L.of_sentBroadcast t s hp ht h)
      · exact L.of_sentNode t s hp ht h
    · exact h
  · exact h

theorem keeps_deadlineReached {s : State} (h : P s) : P (deadlineReached s) := by
  unfold deadlineReached
  split
  · next t hp ht =>
    split
    · exact L.keeps_settle
        (L.keeps_decideRetry (s := bump .timeouts s) _ (.inl hp) ht (L.of_view (dropView_bump ..) h))
    · exact h
  · exact h

theorem keeps_truncated {s : State} (h : P s) : P (truncated s) := by
  unfold truncated
  split
  · next t hp ht _ =>
    split
    · exact L.keeps_settle (L.keeps_endCorrupt _ (.inr hp) ht h)
    · exact h
  · exact h

theorem keeps_endDiscard (due : State → Bool) {s : State} (h : P s) : P (endDiscard due s) := by
  unfold endDiscard
  split
  · next t d hp ht _ =>
    split
    · exact L.keeps_settle (L.keeps_endCorrupt _ (.inr hp) ht h)
    · exact h
  · exact h

theorem keeps_jamSilence {s : State} (h : P s) : P (jamSilence s) := by
  unfold jamSilence
  split
  · next hp => exact L.keeps_settle (L.of_leaveJammed s hp.1 h)
  · exact h

theorem keeps_tailEnd {s : State} (h : P s) : P (tailEnd s) := by
  unfold tailEnd
  split
  · next hp => exact L.keeps_settle (L.of_leaveTail s hp.1 hp.2.1 h)
  · exact h

/-! ### Events of the timers -/

theorem keeps_boundaryReached {s : State} (h : P s) : P (boundaryReached s) := by
  unfold boundaryReached
  split
  · exact L.keeps_settle (L.of_boundary s h)
  · exact h

theorem keeps_probeDueReached (n : NodeIx) {s : State} (h : P s) : P (probeDueReached n s) := by
  unfold probeDueReached
  split
  · next hd =>
    have hdue : (s.monitor.health[n]).probeDue.isSome = true := by
      obtain ⟨due, hs, -⟩ := (Option.any_eq_true _ _).1 hd
      exact Option.isSome_iff_exists.2 ⟨due, hs⟩
    split
    · exact L.of_armProbe n s hdue h
    · exact L.of_armProbe n s hdue h
    · exact L.keeps_settle (L.of_listProbe n s hdue h)
  · exact h

/-! ### Requests that change the port or the Node Monitor -/

theorem keeps_ownNodeEnable (f : ManageFrame) {s : State} (h : P s) : P (ownNodeEnable f s) := by
  unfold ownNodeEnable
  split
  · exact L.of_view (dropView_badArgument ..) h
  · next n _ =>
    split
    · exact L.of_view (dropView_answerNode ..) h
    · next hs => exact L.of_view (dropView_answerNode ..) (L.of_enable n s hs h)
    · exact L.of_view (dropView_answerNode ..) h

theorem keeps_ownNodeDisable (f : ManageFrame) {s : State} (h : P s) : P (ownNodeDisable f s) := by
  unfold ownNodeDisable
  split
  · exact L.of_view (dropView_badArgument ..) h
  · next n _ =>
    split
    · exact L.of_view (dropView_answerNode ..) h
    · exact L.of_view (dropView_answerNode ..) h
    · next ha _ => exact L.of_view (dropView_answerNode ..) (L.of_disable n s ha h)

theorem keeps_reviveOffline (f : ManageFrame) (n : NodeIx) {s : State} (h : P s) : P (reviveOffline f n s) := by
  unfold reviveOffline
  dsimp only
  split
  · exact L.of_view (dropView_answerNode ..) h
  · split
    · exact L.of_view (dropView_answerNode ..) h
    · exact L.of_view (dropView_answerNode ..) h
    · split
      · next hd => exact L.of_view (dropView_answerNode ..) (L.keeps_decideDrop (L.of_listProbe n s hd h))
      · exact L.of_view (dropView_answerNode ..) h

theorem keeps_ownNodeRevive (f : ManageFrame) {s : State} (h : P s) : P (ownNodeRevive f s) := by
  unfold ownNodeRevive
  split
  · exact L.of_view (dropView_badArgument ..) h
  · next n _ =>
    split
    · exact L.of_view (dropView_answerNode ..) h
    · exact L.of_view (dropView_answerNode ..) h
    · exact L.keeps_reviveOffline f n h
    · exact L.of_view (dropView_answerNode ..) h

theorem keeps_ownDropIsolate (f : ManageFrame) {s : State} (h : P s) : P (ownDropIsolate f s) := by
  unfold ownDropIsolate
  split
  · next hp => exact L.of_isolate f s (.inl hp) h
  · next hp => exact L.of_isolate f s (.inr hp) h
  · next hp => exact L.of_isolateInGuard f s hp h
  · exact L.of_view (dropView_answerPort ..) h
  · split
    · exact L.of_view (dropView_answerPort ..) h
    · exact L.of_view (dropView_holdIsolate ..) h

theorem keeps_ownDropResume (f : ManageFrame) {s : State} (h : P s) : P (ownDropResume f s) := by
  have hcancel : P (answerPort f (cancelPending s)) := L.of_view (by simp) h
  have hanswer : P (answerPort f s) := L.of_view (dropView_answerPort ..) h
  unfold ownDropResume
  split
  · next hp => exact L.keeps_decideDrop (L.of_view (dropView_answerPort ..) (L.of_leaveIsolated s hp h))
  · exact hcancel
  · exact hcancel
  · exact hcancel
  · exact hanswer
  · exact hanswer
  · exact hanswer

theorem keeps_broadcastSegmentReset {s : State} (h : P s) : P (broadcastSegmentReset s) :=
  L.of_view (dropView_raise ..) (L.of_softReset s h)

theorem keeps_ownSegmentReset (f : ManageFrame) {s : State} (h : P s) : P (ownSegmentReset f s) :=
  L.of_view ((dropView_raise ..).trans (dropView_reply ..)) (L.of_softReset s h)

/-- The owner of each code keeps a law. -/
theorem keeps_ownerOf (code : ManageCode) (t : Arrival) (f : ManageFrame) {s : State} (h : P s) :
    P (ownerOf code t f s) := by
  cases code with
  | editOpen => exact L.of_view (dropView_ownEditOpen f s) h
  | editClose => exact L.of_view (dropView_ownEditClose f s) h
  | entryWrite => exact L.of_view (dropView_ownEntryWrite f s) h
  | entryRead => exact L.of_view (dropView_ownEntryRead f s) h
  | commit => exact L.of_view (dropView_ownCommit f s) h
  | nodeRead => exact L.of_view (dropView_ownNodeRead f s) h
  | nodeEnable => exact L.keeps_ownNodeEnable f h
  | nodeDisable => exact L.keeps_ownNodeDisable f h
  | nodeRevive => exact L.keeps_ownNodeRevive f h
  | cellRead => exact L.of_view (dropView_ownCellRead f s) h
  | dropIsolate => exact L.keeps_ownDropIsolate f h
  | dropResume => exact L.keeps_ownDropResume f h
  | noticeAck => exact L.of_view (dropView_ownNoticeAck f s) h
  | noticeMask => exact L.of_view (dropView_ownNoticeMask f s) h
  | clockRead => exact L.of_view (dropView_reply ..) h
  | epochSet => exact L.of_view ((dropView_reply ..).trans (dropView_setEpoch t f s)) h
  | statusRead => exact L.of_view (dropView_reply ..) h
  | countersRead => exact L.of_view (dropView_ownCountersRead f s) h
  | segmentReset => exact L.keeps_ownSegmentReset f h

/-! ### Intake -/

theorem keeps_admit {r : Slot} {s : State} (h : P s) : P (decideDrop (admitSlot r s)) :=
  L.keeps_decideDrop (L.of_view (dropView_admitSlot r s) h)

theorem keeps_intakeRequest (op : Op) (f : RequestFrame) {s : State} (h : P s) : P (intakeRequest op f s) := by
  have hrefuse : ∀ status detail, P (refuse f.tag f.node status detail id s) := fun status detail =>
    L.of_view (dropView_refuse (fun _ => rfl) ..) h
  unfold intakeRequest
  refine L.keeps_decideA ?_
  split
  · exact hrefuse ..
  · split
    · exact hrefuse ..
    · split
      · exact L.of_view (dropView_refuse (fun _ => dropView_raiseRefused ..) ..) h
      · split
        · split
          · exact L.of_view (dropView_discardFrame s) h
          · exact L.of_view (dropView_serveRead ..) h
        · unfold admitOrRefuse
          split
          · exact hrefuse ..
          · split
            · exact hrefuse ..
            · exact L.keeps_admit h

theorem keeps_intakeBroadcastWrite (f : RequestFrame) {s : State} (h : P s) : P (intakeBroadcastWrite f s) := by
  have hdiscard : P (discardFrame s) := L.of_view (dropView_discardFrame s) h
  unfold intakeBroadcastWrite
  refine L.keeps_decideA ?_
  split
  · exact hdiscard
  · split
    · exact hdiscard
    · split
      · exact hdiscard
      · split
        · exact L.of_view (dropView_raiseRefused ..) hdiscard
        · split
          · exact hdiscard
          · exact L.keeps_admit h

theorem keeps_intakeAbort (f : AbortFrame) {s : State} (h : P s) : P (intakeAbort f s) := by
  unfold intakeAbort
  refine L.keeps_decideA ?_
  repeat' split
  · exact L.of_view (dropView_discardFrame s) h
  · exact L.of_view (dropView_answer ..) h
  · exact L.of_view (dropView_answer ..) h
  · exact L.of_view (dropView_abortEffect f s) h

theorem keeps_manageChecks (f : ManageFrame) {rest : State → State} {s : State} (hk : P (rest s)) (h : P s) :
    P (manageChecks f rest s) := by
  unfold manageChecks
  refine L.keeps_decideA ?_
  repeat' split
  · exact L.of_view (dropView_discardFrame s) h
  · exact L.of_view (dropView_reply ..) h
  · exact L.of_view (dropView_reply ..) h
  · exact hk

theorem keeps_intakeManage (code : ManageCode) (t : Arrival) (f : ManageFrame) {s : State} (h : P s) :
    P (intakeManage code (ownerOf code t) f s) := by
  refine L.keeps_manageChecks f ?_ h
  split
  · exact L.keeps_ownerOf code t f h
  · exact L.of_view (dropView_badArgument ..) h

theorem keeps_intakeUnknown (code : Byte) (f : ManageFrame) {s : State} (h : P s) : P (intakeUnknown code f s) :=
  L.keeps_manageChecks f (L.of_view (dropView_reply ..) h) h

theorem keeps_intakeBroadcastManage (code : ManageCode) {effect : ManageFrame → State → State} (f : ManageFrame)
    {s : State} (hk : P (effect f s)) (h : P s) : P (intakeBroadcastManage code effect f s) := by
  unfold intakeBroadcastManage
  refine L.keeps_decideA ?_
  split
  · exact L.of_view (dropView_discardFrame s) h
  · exact hk

theorem keeps_intakeDirect (t : Arrival) (p : Downstream) {s : State} (h : P s) : P (intakeDirect t p s) := by
  cases p with
  | request op f => exact L.keeps_intakeRequest op f h
  | abort f => exact L.keeps_intakeAbort f h
  | manage code f =>
    change P (intakeManageCode t code f s)
    unfold intakeManageCode
    split
    · exact L.keeps_intakeUnknown code f h
    · exact L.keeps_intakeManage _ t f h
  | short => exact L.keeps_decideA (L.of_view (dropView_discardFrame s) h)

theorem keeps_intakeBroadcast (t : Arrival) (p : Downstream) {s : State} (h : P s) : P (intakeBroadcast t p s) := by
  have hdiscard : P (decideA (discardFrame s)) := L.keeps_decideA (L.of_view (dropView_discardFrame s) h)
  unfold intakeBroadcast
  split
  · exact L.keeps_intakeBroadcastWrite _ h
  · exact hdiscard
  · exact hdiscard
  · split
    · exact L.keeps_intakeBroadcastManage _ _ (L.of_view (dropView_setEpoch ..) h) h
    · exact L.keeps_intakeBroadcastManage _ _ (L.keeps_broadcastSegmentReset h) h
    · exact hdiscard
  · exact hdiscard

/-! ### Frames on port A -/

theorem keeps_sortDownstream (t : Arrival) (bytes : List Byte) {s : State} (h : P s) :
    P (sortDownstream t bytes s) := by
  have hrelay : P (relayDown bytes (arrivalInstant t s) s) := L.of_view (dropView_relayDown ..) h
  unfold sortDownstream
  split
  · exact hrelay
  · split
    · exact L.keeps_intakeDirect t _ h
    · split
      · exact L.keeps_intakeBroadcast t _ hrelay
      · exact L.keeps_decideA hrelay

theorem keeps_takeA (t : Arrival) (f : RawFrame) {s : State} (h : P s) : P (takeA t f s) := by
  unfold takeA
  split
  · exact h
  · split
    · exact L.of_view (dropView_bump ..) h
    · split
      · exact L.of_view (dropView_bump ..) h
      · exact L.keeps_sortDownstream t _ (L.of_view (dropView_bump ..) h)

theorem keeps_running (us : Nat) {k : State → State} (hk : ∀ s, P s → P (k s)) {s : State} (h : P s) :
    P (running us k s) := by
  unfold running
  split
  · exact h
  · exact hk _ (L.of_view (dropView_advance ..) h)

/-- An event that leaves the view keeps the law. -/
theorem keeps_quietEvent (us : Nat) {k : State → State} (hk : ∀ s, dropView (k s) = dropView s) {s : State} (h : P s) :
    P (running us k s) := L.keeps_running us (fun s => L.of_view (hk s)) h

theorem keeps_takeDirect (t : Arrival) (p : Downstream) {k : State → State} (hk : ∀ s, P s → P (k s)) {s : State}
    (h : P s) : P (takeDirect t p k s) := by
  unfold takeDirect
  refine L.keeps_running _ (fun s h => ?_) h
  have hcount : ∀ c, P (bump c s) := fun c => L.of_view (dropView_bump ..) h
  split
  · exact h
  · split
    · exact hcount _
    · split
      · exact L.of_view (dropView_relayDown ..) (hcount _)
      · exact hk _ (hcount _)

theorem keeps_takeBroadcast (t : Arrival) (p : Downstream) {k : State → State} (hk : ∀ s, P s → P (k s)) {s : State}
    (h : P s) : P (takeBroadcast t p k s) := by
  unfold takeBroadcast
  refine L.keeps_running _ (fun s h => ?_) h
  have hcount : ∀ c, P (bump c s) := fun c => L.of_view (dropView_bump ..) h
  split
  · exact h
  · split
    · exact hcount _
    · have hrelay := L.of_view
        (dropView_relayDown (downstreamBytes Config.repeaterStrap p) (arrivalInstant t s) _) (hcount .aReceived)
      dsimp only
      split
      · exact hrelay
      · exact hk _ hrelay

/-! ### Every step -/

/-- Every command keeps the law. -/
theorem exec {i : Instr} {s u : State} (h : P s) (hu : Machine.exec i s = .next u) : P u := by
  have hm : ∀ code t f,
      P (takeDirect t (.manage (ManageCode.byte code) f) (intakeManage code (ownerOf code t) f) s) :=
    fun code t f => L.keeps_takeDirect t _ (fun _ => L.keeps_intakeManage code t f) h
  have next : ∀ {a : State}, P a → (.next a : Host.Outcome State Fault Refusal) = .next u → P u :=
    StepLaws.of_next
  cases i with
  | hardReset straps => exact next (L.at_release straps _) hu
  | trunkAUp dt => exact next (L.keeps_quietEvent dt dropView_linkAUp h) hu
  | trunkADown dt => exact next (L.keeps_quietEvent dt dropView_linkADown h) hu
  | trunkBUp dt => exact next (L.keeps_quietEvent dt dropView_linkBUp h) hu
  | trunkBDown dt => exact next (L.keeps_quietEvent dt dropView_linkBDown h) hu
  | aFrameReceived t f => exact next (L.keeps_running t.elapsed (fun _ => L.keeps_takeA t f) h) hu
  | bFrameReceived dt f => exact next (L.keeps_quietEvent dt (dropView_takeB f) h) hu
  | bTransmitEnd dt => exact next (L.keeps_quietEvent dt dropView_transmissionBEnds h) hu
  | aTransmitEnd dt => exact next (L.keeps_quietEvent dt dropView_transmissionAEnds h) hu
  | read t f => exact next (L.keeps_takeDirect t _ (fun _ => L.keeps_intakeRequest .read f) h) hu
  | write t f => exact next (L.keeps_takeDirect t _ (fun _ => L.keeps_intakeRequest .write f) h) hu
  | broadcastWrite t f => exact next (L.keeps_takeBroadcast t _ (fun _ => L.keeps_intakeBroadcastWrite f) h) hu
  | abort t f => exact next (L.keeps_takeDirect t _ (fun _ => L.keeps_intakeAbort f) h) hu
  | editOpen t f => exact next (hm .editOpen t f) hu
  | editClose t f => exact next (hm .editClose t f) hu
  | entryWrite t f => exact next (hm .entryWrite t f) hu
  | entryRead t f => exact next (hm .entryRead t f) hu
  | commit t f => exact next (hm .commit t f) hu
  | nodeRead t f => exact next (hm .nodeRead t f) hu
  | nodeEnable t f => exact next (hm .nodeEnable t f) hu
  | nodeDisable t f => exact next (hm .nodeDisable t f) hu
  | nodeRevive t f => exact next (hm .nodeRevive t f) hu
  | cellRead t f => exact next (hm .cellRead t f) hu
  | dropIsolate t f => exact next (hm .dropIsolate t f) hu
  | dropResume t f => exact next (hm .dropResume t f) hu
  | noticeAck t f => exact next (hm .noticeAck t f) hu
  | noticeMask t f => exact next (hm .noticeMask t f) hu
  | clockRead t f => exact next (hm .clockRead t f) hu
  | epochSet t scope f =>
    cases scope with
    | direct => exact next (hm .epochSet t f) hu
    | broadcast =>
      exact next (L.keeps_takeBroadcast t _
        (fun _ h => L.keeps_intakeBroadcastManage .epochSet f (L.of_view (dropView_setEpoch ..) h) h) h) hu
  | statusRead t f => exact next (hm .statusRead t f) hu
  | countersRead t f => exact next (hm .countersRead t f) hu
  | segmentReset t scope f =>
    cases scope with
    | direct => exact next (hm .segmentReset t f) hu
    | broadcast =>
      exact next (L.keeps_takeBroadcast t _
        (fun _ h => L.keeps_intakeBroadcastManage .segmentReset f (L.keeps_broadcastSegmentReset h) h) h) hu
  | unknownCode t code f => exact next (L.keeps_takeDirect t _ (fun _ => L.keeps_intakeUnknown code f) h) hu
  | guardSilenceReached dt => exact next (L.keeps_running dt (fun _ => L.keeps_guardSilence) h) hu
  | busyLimitInGuard dt => exact next (L.keeps_running dt (fun _ => L.keeps_busyInGuard) h) hu
  | requestFrameSent dt => exact next (L.keeps_running dt (fun _ => L.keeps_frameSent) h) hu
  | strayCharacter dt ch => exact next (L.keeps_running dt (fun _ => L.keeps_characterEnds ch) h) hu
  | responseFirstCharacter dt ch => exact next (L.keeps_running dt (fun _ => L.keeps_characterEnds ch) h) hu
  | responseCharacter dt ch => exact next (L.keeps_running dt (fun _ => L.keeps_characterEnds ch) h) hu
  | responseDeadline dt => exact next (L.keeps_running dt (fun _ => L.keeps_deadlineReached) h) hu
  | responseTruncated dt => exact next (L.keeps_running dt (fun _ => L.keeps_truncated) h) hu
  | discardSilenceReached dt => exact next (L.keeps_running dt (fun _ => L.keeps_endDiscard guardSilent) h) hu
  | discardBusyLimit dt => exact next (L.keeps_running dt (fun _ => L.keeps_endDiscard discardOverdue) h) hu
  | jamCleared dt => exact next (L.keeps_running dt (fun _ => L.keeps_jamSilence) h) hu
  | sendingTailEnd dt => exact next (L.keeps_running dt (fun _ => L.keeps_tailEnd) h) hu
  | baseCycleBoundary dt => exact next (L.keeps_running dt (fun _ => L.keeps_boundaryReached) h) hu
  | freshnessExpiry dt cell => exact next (L.keeps_quietEvent dt (dropView_freshnessPast cell) h) hu
  | probeTimerExpiry dt node => exact next (L.keeps_running dt (fun _ => L.keeps_probeDueReached node) h) hu
  | sessionTimerExpiry dt => exact next (L.keeps_quietEvent dt dropView_sessionExpiry h) hu
  | noticeResendExpiry dt => exact next (L.keeps_quietEvent dt dropView_resendExpiry h) hu
  | hardResetBegin source => exact next (L.at_begin source _) hu

/-- Every step keeps the law. -/
theorem step {s u : State} (h : P s) (hu : Machine.step s = .next u) : P u := by
  unfold Machine.step at hu
  split at hu
  · exact StepLaws.of_next (L.keeps_running 1 (fun _ h => h) h) hu
  · exact L.exec (L.of_view (dropView_pending ..) h) hu

end DropLaws

end Sys2Proof.Machine
end

section
/-! PROOF. Every step keeps each port state with its transaction, deadline, DROP_DE, frame under transmission and IND_LINE
(R26, R29, R176). -/

namespace Sys2Proof.Machine

/-! ### IND_LINE is the port's alone (R176) -/

@[simp] theorem evalNodeIndicator_indLine (s : State) :
    (evalNodeIndicator s).status.indLine = s.status.indLine := rfl

@[simp] theorem deferredReply_indLine (tag : Tag) (status : Status) (body : List Piece) (s : State) :
    (deferredReply tag status body s).status.indLine = s.status.indLine := rfl

@[simp] theorem pollOutcome_indLine (key : PollKey) (result : DropResult) (s : State) :
    (pollOutcome key result s).status.indLine = s.status.indLine :=
  congrArg DropView.indLine (dropView_pollOutcome key result s)

@[simp] theorem applyAnswer_indLine (n : NodeIx) (latency : Word32) (s : State) :
    (applyAnswer n latency s).status.indLine = s.status.indLine := by
  unfold applyAnswer
  dsimp only
  split <;> simp

@[simp] theorem enterOffline_indLine (n : NodeIx) (s : State) :
    (enterOffline n s).status.indLine = s.status.indLine := by
  rw [enterOffline_status]

@[simp] theorem applyFailure_indLine (n : NodeIx) (s : State) :
    (applyFailure n s).status.indLine = s.status.indLine := by
  unfold applyFailure
  dsimp only
  split
  · rfl
  · rfl
  · rfl
  · split <;> simp

@[simp] theorem applyOutcome_indLine (n : NodeIx) (result : DropResult) (latency : Word32) (s : State) :
    (applyOutcome n result latency s).status.indLine = s.status.indLine := by
  cases result <;> simp [applyOutcome]

@[simp] theorem probeOutcome_indLine (n : NodeIx) (result : DropResult) (latency : Word32) (s : State) :
    (probeOutcome n result latency s).status.indLine = s.status.indLine := by
  unfold probeOutcome
  dsimp only
  split
  · simp
  · simp
  · split <;> simp

@[simp] theorem deliverToOwner_indLine (t : Txn) (result : DropResult) (s : State) :
    (deliverToOwner t result s).status.indLine = s.status.indLine := by
  unfold deliverToOwner
  split <;> simp

@[simp] theorem deliverToMonitor_indLine (t : Txn) (result : DropResult) (s : State) :
    (deliverToMonitor t result s).status.indLine = s.status.indLine := by
  unfold deliverToMonitor
  split <;> simp

@[simp] theorem disableNode_indLine (n : NodeIx) (s : State) :
    (disableNode n s).status.indLine = s.status.indLine := by
  rw [disableNode_eq]
  simp

@[simp] theorem updateNodes_indLine (old : Tables) (s : State) :
    (updateNodes old s).status.indLine = s.status.indLine := by
  refine foldl_keeps (fun s => s.status.indLine) _ (fun s n => ?_) _ _
  unfold updatePresence
  split <;> simp

@[simp] theorem applyCommit_indLine (tag : Tag) (s : State) : (applyCommit tag s).status.indLine = s.status.indLine := by
  simp [applyCommit]

@[simp] theorem accountLeftovers_indLine (s : State) : (accountLeftovers s).status.indLine = s.status.indLine := by
  unfold accountLeftovers
  dsimp only
  split <;> simp [foldl_keeps (fun s : State => s.status.indLine), bump_indLine]

@[simp] theorem boundary_indLine (s : State) : (boundary s).status.indLine = s.status.indLine := by
  have hpending : ∀ u : State, (applyPending u).status.indLine = u.status.indLine := fun u => by
    unfold applyPending
    split <;> simp
  simp [boundary, hpending]

@[simp] theorem beginAttempt_indLine (t : Txn) (s : State) :
    (beginAttempt t s).status.indLine = s.status.indLine := by
  unfold beginAttempt
  dsimp only
  split <;> simp [bump_indLine]

/-! ### The law -/

/-- The law reads the engine and IND_LINE alone. -/
theorem portConsistent_congr {s u : State} (he : u.engine = s.engine) (hi : u.status.indLine = s.status.indLine)
    (h : PortConsistent s) : PortConsistent u := by
  unfold PortConsistent
  rw [he, hi]
  exact h

/-- What the law reads is part of the view. -/
theorem portConsistent_of_view {s u : State} (hv : dropView u = dropView s) (h : PortConsistent s) :
    PortConsistent u := by
  obtain ⟨hp, ht, hd, hx, he, hi, -⟩ := dropView_eq_iff.1 hv
  unfold PortConsistent
  rw [hp, ht, hd, hx, he, hi]
  exact h

/-- A port at rest, IDLE or ISOLATED: no transaction, deadline or frame, and IND_LINE does not show (R26, R29, R176). -/
theorem portConsistent_of_rest {s : State} (hp : s.engine.port = .idle ∨ s.engine.port = .isolated)
    (hi : s.status.indLine = false) (ht : s.engine.txn = none) (hd : s.engine.deadline = none)
    (hx : s.engine.txStart = none) (he : s.engine.dropDE = false) : PortConsistent s := by
  rcases hp with hp | hp <;> simp [PortConsistent, hp, hi, ht, hd, hx, he]

/-- In every port state but JAMMED, IND_LINE does not show (R176). -/
theorem PortConsistent.indLine_off {s : State} (h : PortConsistent s) (hp : s.engine.port ≠ .jammed) :
    s.status.indLine = false := Bool.eq_false_iff.2 fun hi => hp (h.1.1 hi)

/-- In every port state but SENDING, the line is released (R29). -/
theorem PortConsistent.released {s : State} (h : PortConsistent s) (hp : s.engine.port ≠ .sending) :
    s.engine.dropDE = false ∧ s.engine.txStart = none :=
  ⟨Bool.eq_false_iff.2 fun hd => hp (h.2.1.1 hd),
    Option.not_isSome_iff_eq_none.1 fun hx => hp (h.2.2.1.1 hx)⟩

/-- In every port state but AWAITING, there is no deadline (R26). -/
theorem PortConsistent.no_deadline {s : State} (h : PortConsistent s) (hp : s.engine.port ≠ .awaiting) :
    s.engine.deadline = none := Option.not_isSome_iff_eq_none.1 fun hd => hp (h.2.2.2.1.1 hd)

/-- A port in IDLE, JAMMED or ISOLATED has no transaction (R26). -/
theorem PortConsistent.rest {s : State} (h : PortConsistent s) : RestHasNoTxn s := h.2.2.2.2.1

theorem portConsistent_guardEntered (t : Txn) {s : State} (hj : s.engine.port ≠ .jammed)
    (hs : s.engine.port ≠ .sending) (h : PortConsistent s) : PortConsistent (guardEntered t s) := by
  obtain ⟨hde, htx⟩ := h.released hs
  simp [PortConsistent, guardEntered, clearAttempt, h.indLine_off hj, hde, htx]

/-- The attempt of a transaction begins in the port state SENDING, with the transaction and the frame (R29). -/
theorem beginAttempt_engine (t : Txn) (s : State) :
    (beginAttempt t s).engine.port = .sending ∧ (beginAttempt t s).engine.dropDE = true ∧
      (beginAttempt t s).engine.txStart = some s.time.clock ∧
      (beginAttempt t s).engine.deadline = s.engine.deadline := by
  unfold beginAttempt
  dsimp only
  refine ⟨rfl, rfl, by split <;> simp, ?_⟩
  unfold countAttempt
  split <;> split <;> simp

theorem portConsistent_beginAttempt {t : Txn} {s : State} (hp : s.engine.port = .guard) (h : PortConsistent s) :
    PortConsistent (beginAttempt t s) := by
  obtain ⟨hport, hde, htx, hdl⟩ := beginAttempt_engine t s
  simp [PortConsistent, hport, hde, htx, hdl, h.no_deadline (by simp [hp]), h.indLine_off (by simp [hp])]

/-- Isolation leaves a port at rest, whatever went before (R42, R44). -/
theorem portConsistent_isolate {answerIsolate : State → State} (ha : ∀ u, dropView (answerIsolate u) = dropView u)
    (s : State) : PortConsistent (isolate answerIsolate s) :=
  portConsistent_of_view (ha _)
    (portConsistent_of_rest (by simp) (by simp [setLineIndicator]) (by simp) (by simp [clearAttempt]) (by simp) (by simp))

/-- A transaction that is left in a port state other than JAMMED leaves a port at rest (R36). -/
theorem portConsistent_leaveTransaction {s : State} (hi : s.status.indLine = false) :
    PortConsistent (leaveTransaction s) := by
  unfold leaveTransaction
  split
  · exact portConsistent_isolate (fun _ => rfl) s
  · exact portConsistent_of_rest (.inl rfl) hi rfl rfl rfl rfl

theorem portConsistent_deliver (t : Txn) (result : DropResult) {s : State} (hi : s.status.indLine = false) :
    PortConsistent (deliver t result s) := portConsistent_leaveTransaction (by simp [hi])

theorem portConsistent_softReset {s : State} (h : PortConsistent s) : PortConsistent (softReset s) := by
  have hline : (softReset s).status.indLine = false := rfl
  by_cases hs : s.engine.port = .sending
  · have hde : s.engine.dropDE = true := h.2.1.2 hs
    have htx : s.engine.txStart.isSome = true := h.2.2.1.2 hs
    simp [PortConsistent, softReset, StatusUnit.softReset, Engine.softReset, PortState.afterReset, clearAttempt, hs, hde,
      htx]
  · obtain ⟨hde, -⟩ := h.released hs
    refine portConsistent_of_rest ?_ hline rfl rfl (by simp [softReset, Engine.softReset, hs]) hde
    change s.engine.port.afterReset = .idle ∨ s.engine.port.afterReset = .isolated
    cases hp : s.engine.port <;> simp_all [PortState.afterReset]

/-- A hard reset leaves a port at rest (R47). -/
theorem portConsistent_blank {straps : Straps} {cause : ResetCause} {s : State}
    (he : s.engine = (State.blank straps cause).engine) (hi : s.status.indLine = false) : PortConsistent s := by
  refine portConsistent_of_rest ?_ hi (by rw [he]; rfl) (by rw [he]; rfl) (by rw [he]; rfl) (by rw [he]; rfl)
  rw [he]
  by_cases hr : straps.segment = Config.repeaterStrap
  · exact .inr (if_pos hr)
  · exact .inl (if_neg hr)

theorem portConsistent_enterJammed (s : State) (h : s.engine.dropDE = false ∧ s.engine.txStart = none) :
    PortConsistent (enterJammed s) := by
  obtain ⟨hde, htx⟩ := h
  simp [PortConsistent, enterJammed_eq, bump_indLine, jamStarted, jamAbandon, setLineIndicator, clearAttempt, hde, htx]

theorem portLaws : DropLaws PortConsistent where
  of_view := portConsistent_of_view
  at_begin source s := portConsistent_blank (cause := beginCause source s.held) rfl rfl
  at_release straps s := by
    rw [releaseReset_eq]
    exact portConsistent_blank (cause := s.held.getD .pin) rfl rfl
  of_softReset _ := portConsistent_softReset
  of_grant t s hp _ h := portConsistent_guardEntered t (by simp [hp]) (by simp [hp]) h
  of_grantProbe t n rest s hp _ _ h :=
    portConsistent_guardEntered t (by simp [hp]) (by simp [hp]) (portConsistent_congr (s := s) rfl rfl h)
  of_dueTail _ _ _ _ h := portConsistent_congr rfl rfl h
  of_retry t s hp _ h := by
    rcases hp with hp | hp <;> exact portConsistent_guardEntered t (by simp [hp]) (by simp [hp]) h
  of_beginAttempt t s hp _ h := portConsistent_beginAttempt hp h
  of_sentBroadcast t s hp _ h :=
    portConsistent_deliver t _ (by simpa [requestEnded] using h.indLine_off (by simp [hp]))
  of_sentNode t s hp ht h := by
    have hi : s.status.indLine = false := h.indLine_off (by simp [hp])
    simp [PortConsistent, enterAwaiting, requestEnded, releaseLine, clearAttempt, hi, ht]
  of_firstChar first s hp h := by
    have hs : s.engine.port ≠ .sending := by simp [hp]
    obtain ⟨hde, htx⟩ := h.released hs
    have ht : s.engine.txn.isSome = true := h.2.2.2.2.2 (.inr (.inl hp))
    simp [PortConsistent, h.indLine_off (by simp [hp]), hde, htx, ht]
  of_deliver t result s hp _ h := portConsistent_deliver t result (h.indLine_off (by rcases hp with hp | hp <;> simp [hp]))
  of_jam s hp h := portConsistent_enterJammed s (h.released (by simp [hp]))
  of_leaveJammed s hp h := by
    obtain ⟨hde, htx⟩ := h.released (by simp [hp])
    have ht : s.engine.txn = none := h.rest (.inr (.inl hp))
    have hd : s.engine.deadline = none := h.no_deadline (by simp [hp])
    exact portConsistent_of_view (dropView_raise ..) (portConsistent_of_rest (.inl rfl) rfl ht hd htx hde)
  of_leaveTail s hp ht h := by
    have hi : s.status.indLine = false := h.indLine_off (by simp [hp])
    have hd : s.engine.deadline = none := h.no_deadline (by simp [hp])
    cases hpend : s.engine.pendingIsolate with
    | some tag =>
      rw [leaveTail_isolate hpend]
      exact portConsistent_isolate (fun _ => rfl) _
    | none =>
      rw [leaveTail_idle hpend]
      exact portConsistent_of_rest (.inl rfl) hi ht hd rfl rfl
  of_isolate f s _ _ := portConsistent_isolate (dropView_answerPort f) s
  of_isolateInGuard f s _ _ := portConsistent_isolate (dropView_answerPort f) _
  of_leaveIsolated s hp h := by
    obtain ⟨hde, htx⟩ := h.released (by simp [hp])
    exact portConsistent_of_rest (.inl rfl) (h.indLine_off (by simp [hp])) (h.rest (.inr (.inr hp)))
      (h.no_deadline (by simp [hp])) htx hde
  of_boundary s h := portConsistent_congr (by simp) (by simp) h
  of_listProbe n s _ h := portConsistent_congr (by simp) (by simp) h
  of_armProbe n s _ h := portConsistent_congr (by simp) (by simp) h
  of_enable n s _ h := portConsistent_congr (by simp) (by simp) h
  of_disable n s _ h := portConsistent_congr (by simp [disableNode]) (by simp) h

/-- Settles O53: the commands of the port are gone through in `DropLaws`, and each leaves the line as its port state says. -/
theorem everyStepKeepsPortConsistent : Obligations.EveryStepKeepsPortConsistent :=
  fun _ _ => portLaws.step

end Sys2Proof.Machine
end

section
/-! PROOF. The law of one health record, and what dropping a claim, an outcome, a request or a commit makes of it (R49 to
R64). -/

namespace Sys2Proof.Machine

/-! ### The law of one record -/

/-- What the law of the Node Monitor says of one health record, for a node that is present or not, is on the probe list or
not, and is the one that the engine probes or not (R49, R50, R55 to R57). -/
structure RecordHeld (present listed probed : Prop) (h : Health) : Prop where
  absent : h.state = .absent ↔ ¬ present
  since : h.offlineSince.isSome = true ↔ h.state = .offline
  listed : listed ↔ h.claim = .listed
  active : h.claim = .active → probed
  free : h.claim = .listed ∨ h.probeDue.isSome = true → ¬ probed
  due : h.probeDue.isSome = true → h.claim = .none
  waits : h.claim = .listed ∨ h.probeDue.isSome = true → h.state = .offline
  offline : h.state = .offline → h.claim ≠ .none ∨ h.probeDue.isSome = true

namespace RecordHeld

variable {present listed probed : Prop} {h : Health}

theorem congr {present' listed' probed' : Prop} (r : RecordHeld present listed probed h) (hp : present' ↔ present)
    (hl : listed' ↔ listed) (hq : probed' ↔ probed) : RecordHeld present' listed' probed' h := by
  rw [propext hp, propext hl, propext hq]
  exact r

/-- A record out of OFFLINE is not listed, and no timer of its runs. -/
theorem not_waiting (r : RecordHeld present listed probed h) (ho : h.state ≠ .offline) :
    h.claim ≠ .listed ∧ h.probeDue = none :=
  ⟨fun hc => ho (r.waits (.inl hc)), Option.not_isSome_iff_eq_none.1 fun hd => ho (r.waits (.inr hd))⟩

/-- A record out of OFFLINE, of a node that the engine does not probe, has no claim. -/
theorem no_claim (r : RecordHeld present listed probed h) (ho : h.state ≠ .offline) (hq : ¬ probed) :
    h.claim = .none := by
  cases hc : h.claim with
  | none => rfl
  | listed => exact absurd hc (r.not_waiting ho).1
  | active => exact absurd (r.active hc) hq

/-- A record whose state changes out of OFFLINE, its node's presence and its claim kept. -/
theorem ofState {g : Health} (r : RecordHeld present listed probed h) (ho : h.state ≠ .offline)
    (ha : g.state = .absent ↔ h.state = .absent) (hg : g.state ≠ .offline) (hs : g.offlineSince = h.offlineSince)
    (hc : g.claim = h.claim) (hd : g.probeDue = h.probeDue) : RecordHeld present listed probed g where
  absent := ha.trans r.absent
  since := by rw [hs]; exact r.since.trans (iff_of_false ho hg)
  listed := by rw [hc]; exact r.listed
  active := by rw [hc]; exact r.active
  free := by rw [hc, hd]; exact r.free
  due := by rw [hc, hd]; exact r.due
  waits := by rw [hc, hd]; exact fun hw => absurd (r.waits hw) ho
  offline hf := absurd hf hg

/-! ### Claims -/

/-- The claim of a listed node is granted (R9, R57). -/
theorem granted (r : RecordHeld present True False h) : RecordHeld present False True { h with claim := .active } where
  absent := r.absent
  since := r.since
  listed := by simp
  active _ := trivial
  free hf := by
    have hl : h.claim = .listed := r.listed.1 trivial
    rcases hf with hf | hf
    · cases hf
    · rw [r.due hf] at hl; cases hl
  due hd := by
    have hl : h.claim = .listed := r.listed.1 trivial
    rw [r.due hd] at hl
    cases hl
  waits _ := r.waits (.inl (r.listed.1 trivial))
  offline _ := .inl (by simp)

/-- A claim that is dropped, listed or the engine's, leaves an OFFLINE node its timer (R58). -/
theorem dropped (r : RecordHeld present listed probed h) (now : Stamp) (units : Nat) :
    RecordHeld present False False (h.claimDropped now units) where
  absent := r.absent
  since := r.since
  listed := by simp [Health.claimDropped]
  active hc := by cases hc
  free _ hf := hf
  due _ := rfl
  waits hf := by
    rcases hf with hf | hf
    · cases hf
    · by_contra ho
      have ho' : h.state ≠ .offline := ho
      simp [Health.claimDropped, ho', (r.not_waiting ho').2] at hf
  offline ho := .inr (by
    have ho' : h.state = .offline := ho
    simp [Health.claimDropped, ho'])

/-- A record without a claim of either kind is as it was once the engine has none. -/
theorem left (r : RecordHeld present listed probed h) (hw : ¬ (listed ∨ probed)) : RecordHeld present False False h where
  absent := r.absent
  since := r.since
  listed := iff_of_false id fun hc => hw (.inl (r.listed.2 hc))
  active hc := hw (.inr (r.active hc))
  free _ hf := hf
  due := r.due
  waits := r.waits
  offline := r.offline

/-- The timer of a node is armed afresh (R56). -/
theorem armed (r : RecordHeld present listed probed h) (hd : h.probeDue.isSome = true) (due : Stamp) :
    RecordHeld present listed probed { h with probeDue := some due } where
  absent := r.absent
  since := r.since
  listed := r.listed
  active := r.active
  free _ := r.free (.inr hd)
  due _ := r.due hd
  waits _ := r.waits (.inr hd)
  offline _ := .inr rfl

/-- A timer's expiry or a NODE_REVIVE lists a claim (R56, R62). -/
theorem toListed (r : RecordHeld present listed probed h) (hd : h.probeDue.isSome = true) :
    RecordHeld present True probed { h with claim := .listed, probeDue := none } where
  absent := r.absent
  since := r.since
  listed := by simp
  active hc := by cases hc
  free _ := r.free (.inr hd)
  due hf := by cases hf
  waits _ := r.waits (.inr hd)
  offline _ := .inl (by simp)

/-! ### Outcomes (R52 to R54, R59) -/

theorem answered (r : RecordHeld present listed probed h) (ha : h.state ≠ .absent) (ho : h.state ≠ .offline)
    (latency : Word32) : RecordHeld present listed probed (h.answered latency) :=
  r.ofState ho (iff_of_false (by simp [Health.answered]) ha) (by simp [Health.answered]) rfl rfl rfl

theorem recovered (r : RecordHeld present listed probed h) (ho : h.state = .offline) (hq : ¬ probed) (latency : Word32) :
    RecordHeld present False probed (h.recovered latency) := by
  have hpresent : present := by
    by_contra hp
    rw [r.absent.2 hp] at ho
    cases ho
  have hclaim : (h.recovered latency).claim = .none := by
    cases hc : h.claim with
    | none => simp [Health.recovered, Health.unlisted, Health.answered, hc]
    | listed => simp [Health.recovered, Health.unlisted, Health.answered, hc]
    | active => exact absurd (r.active hc) hq
  have hrest : (h.recovered latency).state = .online ∧ (h.recovered latency).offlineSince = none ∧
      (h.recovered latency).probeDue = none := by
    unfold Health.recovered Health.unlisted
    split <;> exact ⟨rfl, rfl, rfl⟩
  obtain ⟨hstate, hsince, hdue⟩ := hrest
  constructor <;> simp [hclaim, hstate, hsince, hdue, hpresent]

theorem suspected (r : RecordHeld present listed probed h) (ha : h.state ≠ .absent) (ho : h.state ≠ .offline) :
    RecordHeld present listed probed { h.failed with state := .suspect } :=
  r.ofState ho (iff_of_false (by simp) ha) (by simp) rfl rfl rfl

/-- A failure of an OFFLINE node is counted alone (R53). -/
theorem failedOffline (r : RecordHeld present listed probed h) : RecordHeld present listed probed h.failed where
  absent := r.absent
  since := r.since
  listed := r.listed
  active := r.active
  free := r.free
  due := r.due
  waits := r.waits
  offline := r.offline

/-- A node without a claim goes OFFLINE with its timer armed (R54). -/
theorem wentOffline (r : RecordHeld present listed probed h) (ha : h.state ≠ .absent) (ho : h.state ≠ .offline)
    (hq : ¬ probed) (now due : Stamp) :
    RecordHeld present listed probed
      { h.failed with state := .offline, offlineSince := some now, probeDue := some due } := by
  have hclaim : h.failed.claim = .none := r.no_claim ho hq
  have hpresent : present := by
    by_contra hp
    exact ha (r.absent.2 hp)
  have hlisted : ¬ listed := fun hl => (r.not_waiting ho).1 (r.listed.1 hl)
  constructor <;> simp [hclaim, hpresent, hlisted, hq]

/-- The engine's probe of a node out of OFFLINE is over (R59). -/
theorem probeOver (r : RecordHeld present listed probed h) (ho : h.state ≠ .offline) :
    RecordHeld present listed False { h with claim := .none } := by
  obtain ⟨hlisted, hdue⟩ := r.not_waiting ho
  have hl : ¬ listed := fun hl => hlisted (r.listed.1 hl)
  have hs : h.offlineSince.isSome = true ↔ h.state = .offline := r.since
  constructor <;> simp [hdue, hl, ho, r.absent, hs]

/-- The engine's probe of an OFFLINE node has failed: the timer is armed (R59). -/
theorem probeFailed (r : RecordHeld present listed True h) (ho : h.state = .offline) (due : Stamp) :
    RecordHeld present listed False { h.failed with claim := .none, probeDue := some due } := by
  have hl : ¬ listed := fun hl => r.free (.inl (r.listed.1 hl)) trivial
  have hs : h.offlineSince.isSome = true := r.since.2 ho
  have ha : h.state = .absent ↔ ¬ present := r.absent
  constructor <;> simp [Health.failed, hl, ho, hs, ← ha]

/-- The engine's probe of an OFFLINE node has been answered (R52, R59). -/
theorem probeAnswered (r : RecordHeld present listed True h) (ho : h.state = .offline) (latency : Word32) :
    RecordHeld present False False (Health.recovered latency { h with claim := .none }) := by
  have ha : h.state = .absent ↔ ¬ present := r.absent
  constructor <;> simp [Health.recovered, Health.unlisted, Health.answered, ← ha, ho]

/-! ### Requests, commits and resets (R60, R61, R64 to R66) -/

theorem disabled (r : RecordHeld present listed probed h) (ha : h.state ≠ .absent) :
    RecordHeld present False probed
      { h with
        state := .disabled, probeDue := none, offlineSince := none
        claim := if h.claim = .listed then .none else h.claim } := by
  have hpresent : present := by
    by_contra hp
    exact ha (r.absent.2 hp)
  have hactive : h.claim = .active → probed := r.active
  cases hc : h.claim <;> constructor <;> simp_all

theorem enabled (r : RecordHeld present listed probed h) (hd : h.state = .disabled) :
    RecordHeld present listed probed { h with state := .unknown, failures := 0 } :=
  r.ofState (by simp [hd]) (by simp [hd]) (by simp) rfl rfl rfl

/-- A cleared record of a node that is present (R61, R64, R66). -/
theorem cleared {state : HealthState} (ha : state ≠ .absent) (ho : state ≠ .offline) :
    RecordHeld True False probed (Health.cleared state) := by
  constructor <;> simp [Health.cleared, ha, ho]

/-- A cleared record of a node that is not (R64, R65). -/
theorem clearedAbsent : RecordHeld False False probed (Health.cleared .absent) := by
  constructor <;> simp [Health.cleared]

theorem softReset (r : RecordHeld present listed probed h) : RecordHeld present False False h.softReset := by
  have ha : h.state = .absent ↔ ¬ present := r.absent
  unfold Health.softReset
  split
  · next hs => exact clearedAbsent.congr (iff_of_false (ha.1 hs) id) .rfl .rfl
  · next hs => exact (cleared (by simp) (by simp)).congr (iff_of_true (by simpa [hs] using ha) trivial) .rfl .rfl
  · next hs _ => exact (cleared (by simp) (by simp)).congr (iff_of_true (not_not.1 fun hp => hs (ha.2 hp)) trivial) .rfl .rfl

end RecordHeld

end Sys2Proof.Machine
end

section
/-! PROOF. The health records together, the due list, and what outcomes, requests and a commit make of them (R49 to R64, R71 to
R73). -/

namespace Sys2Proof.Machine

/-! ### The records and the due list -/

/-- IND_NODE shows while some node is OFFLINE (R55). -/
def NodeIndicated (s : State) : Prop :=
  s.status.indNode = true ↔ ∃ n : NodeIx, (s.monitor.health[n]).state = .offline

/-- Every health record meets its law, for the nodes that are present and the one that the engine probes; the probe list
holds no node twice; and IND_NODE is right (R49, R50, R55 to R57). -/
structure RecordsHeld (present probed : NodeIx → Prop) (s : State) : Prop where
  record : ∀ n : NodeIx, RecordHeld (present n) (n ∈ s.monitor.probeList) (probed n) s.monitor.health[n]
  nodup : s.monitor.probeList.Nodup
  indicator : NodeIndicated s

/-- The nodes that a bank has present (R49). -/
def presentIn (b : Tables) (n : NodeIx) : Prop :=
  (b.node[n]).present = true

/-- The node that the engine's transaction probes (R26, R57). -/
def probing (s : State) (n : NodeIx) : Prop :=
  s.engine.txn.map Txn.claimant = some (.probe n)

/-- The records meet their law for the ACTIVE bank, and the due list holds what may be polled. -/
structure MonitorHeld (probed : NodeIx → Prop) (s : State) : Prop where
  records : RecordsHeld (presentIn s.config.active) probed s
  due : DueListServes s

theorem monitorConsistent_iff (s : State) : MonitorConsistent s ↔ MonitorHeld (probing s) s ∧ RestHasNoTxn s := by
  constructor
  · rintro ⟨⟨ha, hs, hi⟩, ⟨hn, hl, hc, hd, hf, hw, ho⟩, hdue, hrest⟩
    refine ⟨⟨⟨fun n => ⟨?_, hs n, hl n, hc n, ?_, fun h => (hd n h).1, hw n, ho n⟩, hn, hi⟩, hdue⟩, hrest⟩
    · simpa [presentIn] using ha n
    · exact fun h => h.elim (hf n) fun h => (hd n h).2
  · rintro ⟨⟨⟨hr, hn, hi⟩, hdue⟩, hrest⟩
    refine ⟨⟨fun n => ?_, fun n => (hr n).since, hi⟩, ⟨hn, fun n => (hr n).listed, fun n => (hr n).active,
      fun n h => ⟨(hr n).due h, (hr n).free (.inr h)⟩, fun n h => (hr n).free (.inl h), fun n => (hr n).waits,
      fun n => (hr n).offline⟩, hdue, hrest⟩
    simpa [presentIn] using (hr n).absent

/-! ### Where the parts of the law are the same -/

theorem NodeIndicated.congr {s u : State} (h : NodeIndicated s) (hi : u.status.indNode = s.status.indNode)
    (hs : ∀ n : NodeIx, (u.monitor.health[n]).state = .offline ↔ (s.monitor.health[n]).state = .offline) :
    NodeIndicated u := by
  unfold NodeIndicated
  rw [hi]
  exact h.trans (exists_congr fun n => (hs n).symm)

theorem nodeIndicated_eval (s : State) : NodeIndicated (evalNodeIndicator s) := evalNodeIndicator_iff s

theorem RecordsHeld.congr {present probed : NodeIx → Prop} {s u : State} (h : RecordsHeld present probed s)
    (hm : u.monitor = s.monitor) (hi : u.status.indNode = s.status.indNode) : RecordsHeld present probed u where
  record n := by rw [hm]; exact h.record n
  nodup := by rw [hm]; exact h.nodup
  indicator := h.indicator.congr hi fun n => by rw [hm]

theorem DueListServes.congr {s u : State} (h : DueListServes s) (hm : u.monitor = s.monitor)
    (ha : u.config.active = s.config.active) (hd : u.calendar.dueList = s.calendar.dueList) : DueListServes u := by
  unfold DueListServes healthOf
  rw [hm, ha, hd]
  exact h

theorem dueListServes_nil {s : State} (h : s.calendar.dueList = []) : DueListServes s := by
  simp [DueListServes, h]

theorem MonitorHeld.congr {probed : NodeIx → Prop} {s u : State} (h : MonitorHeld probed s)
    (hm : u.monitor = s.monitor) (ha : u.config.active = s.config.active)
    (hi : u.status.indNode = s.status.indNode) (hd : u.calendar.dueList = s.calendar.dueList) :
    MonitorHeld probed u where
  records := by rw [ha]; exact h.records.congr hm hi
  due := h.due.congr hm ha hd

theorem MonitorHeld.congr_probed {probed probed' : NodeIx → Prop} {s : State} (h : MonitorHeld probed s)
    (hp : ∀ n, probed' n ↔ probed n) : MonitorHeld probed' s := by
  rw [show probed' = probed from funext fun n => propext (hp n)]
  exact h

theorem MonitorHeld.of_view {probed : NodeIx → Prop} {s u : State} (hv : dropView u = dropView s)
    (h : MonitorHeld probed s) : MonitorHeld probed u := by
  obtain ⟨-, -, -, -, -, -, hi, hm, ha, hd⟩ := dropView_eq_iff.1 hv
  exact h.congr hm ha hi hd

/-! ### The due list after a change at one node (R71 to R73) -/

/-- A node in service at an address (R51, R71). -/
theorem healthOf_inService_iff (s : State) (a : NodeAddr) :
    (healthOf s a).inService = true ↔ ∃ n, nodeIx? a = some n ∧ (s.monitor.health[n]).state.inService = true := by
  unfold healthOf
  cases nodeIx? a with
  | none => simp [HealthState.inService]
  | some n => simp

/-- A node's address is its own (R50). -/
theorem nodeAddr_of_nodeIx? {a : NodeAddr} {n : NodeIx} (h : nodeIx? a = some n) : nodeAddr n = a := by
  unfold nodeIx? at h
  split at h
  · next ha =>
    obtain rfl := Option.some.inj h
    exact Fin.ext (Nat.sub_add_cancel ha.1)
  · cases h

/-- The due list serves as long as it loses entries alone, and those of a node that leaves service among them. -/
theorem DueListServes.shrink {s u : State} (h : DueListServes s)
    (ha : u.config.active = s.config.active) (hsub : u.calendar.dueList.Sublist s.calendar.dueList)
    (hs : ∀ n : NodeIx, (s.monitor.health[n]).state.inService = true → (u.monitor.health[n]).state.inService = true ∨
      ∀ i ∈ u.calendar.dueList, (s.config.active.poll[i]).node ≠ nodeAddr n) : DueListServes u := by
  refine ⟨h.1.sublist hsub, fun i hi => ?_⟩
  obtain ⟨hused, hin⟩ := h.2 i (hsub.subset hi)
  obtain ⟨n, hn, hserve⟩ := (healthOf_inService_iff _ _).1 hin
  rw [ha]
  refine ⟨hused, (healthOf_inService_iff _ _).2 ⟨n, hn, ?_⟩⟩
  exact (hs n hserve).resolve_right fun hne => hne i hi (nodeAddr_of_nodeIx? hn).symm

/-! ### A change at one node -/

/-- From `s` to `u` no other node's record or claim than `n`'s changes, and IND_NODE stays right. -/
structure ChangesNode (n : NodeIx) (s u : State) : Prop where
  active : u.config.active = s.config.active
  others : ∀ m : NodeIx, m ≠ n → u.monitor.health[m] = s.monitor.health[m]
  listed : ∀ m : NodeIx, m ≠ n → (m ∈ u.monitor.probeList ↔ m ∈ s.monitor.probeList)
  nodup : s.monitor.probeList.Nodup → u.monitor.probeList.Nodup
  indicator : NodeIndicated s → NodeIndicated u

theorem ChangesNode.trans {n : NodeIx} {s t u : State} (h : ChangesNode n s t) (k : ChangesNode n t u) :
    ChangesNode n s u where
  active := k.active.trans h.active
  others m hm := (k.others m hm).trans (h.others m hm)
  listed m hm := (k.listed m hm).trans (h.listed m hm)
  nodup := k.nodup ∘ h.nodup
  indicator := k.indicator ∘ h.indicator

/-- The records meet their law after a change at one node whose record does. -/
theorem RecordsHeld.changed {present present' probed probed' : NodeIx → Prop} {n : NodeIx} {s u : State}
    (h : RecordsHeld present probed s) (c : ChangesNode n s u)
    (hr : RecordHeld (present' n) (n ∈ u.monitor.probeList) (probed' n) u.monitor.health[n])
    (hpresent : ∀ m, m ≠ n → (present' m ↔ present m)) (hprobed : ∀ m, m ≠ n → (probed' m ↔ probed m)) :
    RecordsHeld present' probed' u where
  record m := by
    by_cases hm : m = n
    · rw [hm]
      exact hr
    · rw [c.others m hm]
      exact (h.record m).congr (hpresent m hm) (c.listed m hm) (hprobed m hm)
  nodup := c.nodup h.nodup
  indicator := c.indicator h.indicator

/-- The whole law after a change at one node that leaves the due list as it is and the node no less in service. -/
theorem MonitorHeld.changed {probed probed' : NodeIx → Prop} {n : NodeIx} {s u : State} (h : MonitorHeld probed s)
    (c : ChangesNode n s u)
    (hr : RecordHeld (presentIn s.config.active n) (n ∈ u.monitor.probeList) (probed' n) u.monitor.health[n])
    (hprobed : ∀ m, m ≠ n → (probed' m ↔ probed m)) (hd : u.calendar.dueList = s.calendar.dueList)
    (hs : (s.monitor.health[n]).state.inService = true → (u.monitor.health[n]).state.inService = true) :
    MonitorHeld probed' u where
  records := by
    rw [c.active]
    exact h.records.changed c hr (fun _ _ => .rfl) hprobed
  due := by
    refine h.due.shrink c.active (by rw [hd]) fun m hm => .inl ?_
    by_cases e : m = n
    · rw [e] at hm ⊢
      exact hs hm
    · rw [c.others m e]
      exact hm

/-- The whole law after a change at one node whose entries have left the due list (R73). -/
theorem MonitorHeld.changedOut {probed probed' : NodeIx → Prop} {n : NodeIx} {s u : State} (h : MonitorHeld probed s)
    (c : ChangesNode n s u)
    (hr : RecordHeld (presentIn s.config.active n) (n ∈ u.monitor.probeList) (probed' n) u.monitor.health[n])
    (hprobed : ∀ m, m ≠ n → (probed' m ↔ probed m))
    (hd : u.calendar.dueList =
      s.calendar.dueList.filter (fun i => (s.config.active.poll[i]).node != nodeAddr n)) :
    MonitorHeld probed' u where
  records := by
    rw [c.active]
    exact h.records.changed c hr (fun _ _ => .rfl) hprobed
  due := by
    refine h.due.shrink c.active (by rw [hd]; exact List.filter_sublist) fun m hm => ?_
    by_cases e : m = n
    · refine .inr fun i hi => ?_
      rw [hd, List.mem_filter] at hi
      rw [e]
      exact bne_iff_ne.1 hi.2
    · rw [c.others m e]
      exact .inl hm

theorem changesNode_modifyHealth (n : NodeIx) (f : Health → Health) {s : State}
    (hf : (f s.monitor.health[n]).state = .offline ↔ (s.monitor.health[n]).state = .offline) :
    ChangesNode n s (modifyHealth n f s) where
  active := rfl
  others m hm := by rw [modifyHealth_health, if_neg hm]
  listed _ _ := .rfl
  nodup := id
  indicator h := h.congr rfl fun m => by
    rw [modifyHealth_health]
    split
    · next e => rw [e]; exact hf
    · exact .rfl

/-- A record changed in service, and the engine's probe with it. -/
theorem MonitorHeld.modifyHealth {probed probed' : NodeIx → Prop} {n : NodeIx} {f : Health → Health} {s : State}
    (h : MonitorHeld probed s) (hprobed : ∀ m, m ≠ n → (probed' m ↔ probed m))
    (hr : RecordHeld (presentIn s.config.active n) (n ∈ s.monitor.probeList) (probed' n) (f s.monitor.health[n]))
    (hf : (f s.monitor.health[n]).state = .offline ↔ (s.monitor.health[n]).state = .offline)
    (hs : (s.monitor.health[n]).state.inService = true → (f s.monitor.health[n]).state.inService = true) :
    MonitorHeld probed' (modifyHealth n f s) := by
  have hn : (Machine.modifyHealth n f s).monitor.health[n] = f s.monitor.health[n] := by
    rw [modifyHealth_health, if_pos rfl]
  refine h.changed (changesNode_modifyHealth n f hf) ?_ hprobed rfl ?_
  · rw [hn]
    exact hr
  · rw [hn]
    exact hs

/-! ### Outcomes (R52 to R54, R59) -/

theorem changesNode_recovered {n : NodeIx} {s : State} (ho : (s.monitor.health[n]).state = .offline)
    (latency : Word32) : ChangesNode n s (applyAnswer n latency s) := by
  have hlist : (applyAnswer n latency s).monitor.probeList = s.monitor.probeList.filter (fun m => m != n) := by
    rw [applyAnswer_of_offline ho, evalNodeIndicator_monitor, raise_monitor]
    rfl
  refine ⟨by simp, fun m hm => applyAnswer_health_ne hm latency s, fun m hm => ?_, fun hn => ?_, fun _ => ?_⟩
  · rw [hlist, List.mem_filter]
    simp [hm]
  · rw [hlist]
    exact hn.filter _
  · rw [applyAnswer_of_offline ho]
    exact nodeIndicated_eval _

theorem mem_probeList_recovered {n : NodeIx} {s : State} (ho : (s.monitor.health[n]).state = .offline)
    (latency : Word32) : n ∉ (applyAnswer n latency s).monitor.probeList := by
  rw [applyAnswer_of_offline ho, evalNodeIndicator_monitor, raise_monitor]
  simp

/-- An answer keeps the law of a node that the engine does not probe (R52). -/
theorem MonitorHeld.applyAnswer {probed : NodeIx → Prop} {n : NodeIx} {s : State} (h : MonitorHeld probed s)
    (hq : ¬ probed n) (ha : (s.monitor.health[n]).state ≠ .absent) (hd : (s.monitor.health[n]).state ≠ .disabled)
    (latency : Word32) : MonitorHeld probed (applyAnswer n latency s) := by
  have hr := h.records.record n
  by_cases ho : (s.monitor.health[n]).state = .offline
  · refine h.changed (changesNode_recovered ho latency) ?_ (fun _ _ => .rfl) (by simp) fun hs => ?_
    · rw [applyAnswer_health_offline ho]
      exact (hr.recovered ho hq latency).congr .rfl (iff_of_false (mem_probeList_recovered ho latency) id) .rfl
    · rw [ho] at hs
      cases hs
  · rw [applyAnswer_of_inService ha hd ho]
    exact h.modifyHealth (fun _ _ => .rfl) (hr.answered ha ho latency) (iff_of_false (by simp [Health.answered]) ho) fun _ => rfl

theorem enterOffline_due (n : NodeIx) (s : State) :
    (enterOffline n s).calendar.dueList =
      s.calendar.dueList.filter (fun i => (s.config.active.poll[i]).node != nodeAddr n) := by
  rw [(enterOffline_blocks n s).2.2.1]
  exact congrArg Calendar.dueList (failCells_flush_calendar n .nodeOffline s)

theorem changesNode_enterOffline (n : NodeIx) (s : State) : ChangesNode n s (enterOffline n s) := by
  have hlist := (enterOffline_blocks n s).2.2.2
  refine ⟨by simp, fun m hm => by rw [enterOffline_health, if_neg hm], fun m _ => by rw [hlist], fun hn => ?_, fun _ => ?_⟩
  · rw [hlist]
    exact hn
  · rw [enterOffline_eq]
    exact nodeIndicated_eval _

/-- A failure keeps the law of a node in service that the engine does not probe (R53, R54). -/
theorem MonitorHeld.applyFailure {probed : NodeIx → Prop} {n : NodeIx} {s : State} (h : MonitorHeld probed s)
    (hq : ¬ probed n) (hs : (s.monitor.health[n]).state = .unknown ∨ (s.monitor.health[n]).state = .online ∨
      (s.monitor.health[n]).state = .suspect) : MonitorHeld probed (applyFailure n s) := by
  have ha : (s.monitor.health[n]).state ≠ .absent := by
    rcases hs with e | e | e <;> simp [-Fin.getElem_fin, e]
  have ho : (s.monitor.health[n]).state ≠ .offline := by
    rcases hs with e | e | e <;> simp [-Fin.getElem_fin, e]
  have hr := h.records.record n
  rw [applyFailure_of_inService hs]
  split
  · have hc := (changesNode_modifyHealth n Health.failed (s := s) .rfl).trans
      (changesNode_enterOffline n (Machine.modifyHealth n Health.failed s))
    refine h.changedOut hc ?_ (fun _ _ => .rfl) (enterOffline_due n _)
    rw [enterOffline_health, if_pos rfl, modifyHealth_health, if_pos rfl,
      (enterOffline_blocks n (Machine.modifyHealth n Health.failed s)).2.2.2]
    exact hr.wentOffline ha ho hq _ _
  · rw [modifyHealth_modifyHealth]
    exact h.modifyHealth (fun _ _ => .rfl) (hr.suspected ha ho) (iff_of_false (by simp) ho) fun _ => rfl

/-- An outcome keeps the law of a node that the engine does not probe (R52, R53). -/
theorem MonitorHeld.applyOutcome {probed : NodeIx → Prop} {n : NodeIx} {s : State} (h : MonitorHeld probed s)
    (hq : ¬ probed n) (result : DropResult) (latency : Word32) :
    MonitorHeld probed (applyOutcome n result latency s) := by
  have hfail : (s.monitor.health[n]).state ≠ .absent → (s.monitor.health[n]).state ≠ .disabled →
      MonitorHeld probed (Machine.applyFailure n s) := fun ha hd => by
    cases hs : (s.monitor.health[n]).state with
    | absent => exact absurd hs ha
    | disabled => exact absurd hs hd
    | unknown => exact h.applyFailure hq (.inl hs)
    | online => exact h.applyFailure hq (.inr (.inl hs))
    | suspect => exact h.applyFailure hq (.inr (.inr hs))
    | offline =>
      rw [applyFailure_of_offline hs]
      exact h.modifyHealth (fun _ _ => .rfl) (h.records.record n).failedOffline .rfl id
  by_cases hout : (s.monitor.health[n]).state = .absent ∨ (s.monitor.health[n]).state = .disabled
  · rw [applyOutcome_of_out hout]
    exact h
  · obtain ⟨ha, hd⟩ := not_or.1 hout
    cases result with
    | ok data => exact h.applyAnswer hq ha hd latency
    | exception code => exact h.applyAnswer hq ha hd latency
    | timeout => exact hfail ha hd
    | corrupt d => exact hfail ha hd

end Sys2Proof.Machine
end

section
/-! PROOF. Claims dropped, probes that end, presence updates and the boundary, on the health records together (R56 to R64, R69,
R71). -/

namespace Sys2Proof.Machine

/-! ### The engine's probe ends (R59) -/

theorem probeOutcome_answer {result : DropResult}
    (h : (∃ data, result = .ok data) ∨ ∃ code, result = .exception code) (n : NodeIx) (latency : Word32) (s : State) :
    probeOutcome n result latency s = applyAnswer n latency (modifyHealth n (fun h => { h with claim := .none }) s) := by
  rcases h with ⟨data, rfl⟩ | ⟨code, rfl⟩ <;> rfl

theorem probeOutcome_failure {result : DropResult} (h : result = .timeout ∨ ∃ d, result = .corrupt d) (n : NodeIx)
    (latency : Word32) (s : State) :
    probeOutcome n result latency s =
      if (s.monitor.health[n]).state = .offline then
        armProbe n (applyFailure n (modifyHealth n (fun h => { h with claim := .none }) s))
      else applyFailure n (modifyHealth n (fun h => { h with claim := .none }) s) := by
  have hstate : ((modifyHealth n (fun h => { h with claim := .none }) s).monitor.health[n]).state =
      (s.monitor.health[n]).state := by rw [modifyHealth_health, if_pos rfl]
  rcases h with rfl | ⟨d, rfl⟩
  all_goals
    unfold probeOutcome
    dsimp only
    rw [hstate]
    simp only [beq_iff_eq]
    rfl

/-- A result is an answer or a failure (R52, R53). -/
theorem DropResult.answer_or_failure (result : DropResult) :
    ((∃ data, result = .ok data) ∨ ∃ code, result = .exception code) ∨
      (result = .timeout ∨ ∃ d, result = .corrupt d) := by
  cases result <;> simp

/-- The outcome of a probe leaves the law without a probe under way (R59). -/
theorem MonitorHeld.probeOutcome {n : NodeIx} {s : State} (h : MonitorHeld (· = n) s) (result : DropResult)
    (latency : Word32) : MonitorHeld (fun _ => False) (probeOutcome n result latency s) := by
  have hr : RecordHeld _ _ True s.monitor.health[n] := (h.records.record n).congr .rfl .rfl (by simp)
  have hother : ∀ m, m ≠ n → (False ↔ m = n) := fun m hm => (iff_of_false id hm)
  by_cases ho : (s.monitor.health[n]).state = .offline
  · have ho' : ((Machine.modifyHealth n (fun h => { h with claim := .none }) s).monitor.health[n]).state = .offline := by
      rw [modifyHealth_health, if_pos rfl]
      exact ho
    rcases result.answer_or_failure with ha | hf
    · rw [probeOutcome_answer ha]
      have hc := (changesNode_modifyHealth n (fun h => { h with claim := .none }) (s := s) .rfl).trans
        (changesNode_recovered ho' latency)
      refine h.changed hc ?_ hother (by simp) fun hs => ?_
      · rw [applyAnswer_health_offline ho', modifyHealth_health, if_pos rfl]
        exact (hr.probeAnswered ho latency).congr .rfl (iff_of_false (mem_probeList_recovered ho' latency) id) .rfl
      · rw [ho] at hs
        cases hs
    · rw [probeOutcome_failure hf, if_pos ho, applyFailure_of_offline ho', armProbe, modifyHealth_modifyHealth,
        modifyHealth_modifyHealth]
      exact h.modifyHealth hother (hr.probeFailed ho _) .rfl id
  · have hover : MonitorHeld (fun _ => False) (Machine.modifyHealth n (fun h => { h with claim := .none }) s) :=
      h.modifyHealth hother (hr.probeOver ho) .rfl id
    rcases result.answer_or_failure with ha | hf
    · rw [probeOutcome_answer ha, ← applyOutcome_answer ha]
      exact hover.applyOutcome id result latency
    · rw [probeOutcome_failure hf, if_neg ho, ← applyOutcome_failure hf n latency]
      exact hover.applyOutcome id result latency

/-! ### Claims dropped (R19, R58) -/

theorem flushPort_health (status : Status) (n : NodeIx) (s : State) :
    (flushPort status s).monitor.health[n] =
      if n ∈ s.monitor.probeList then
        (s.monitor.health[n]).claimDropped s.time.clock (s.config.active.node[n]).probeUnits
      else s.monitor.health[n] := by
  rw [flushPort, emptyProbeList_health]
  simp [-Fin.getElem_fin]

/-- The law after every claim, the engine's included, has been dropped, and the due list emptied. -/
theorem MonitorHeld.claimsDropped {probed : NodeIx → Prop} {now : Stamp} {units : NodeIx → Nat} {s u : State}
    (h : MonitorHeld probed s) (ha : u.config.active = s.config.active) (hi : u.status.indNode = s.status.indNode)
    (hlist : u.monitor.probeList = []) (hdue : u.calendar.dueList = [])
    (hdropped : ∀ n : NodeIx, n ∈ s.monitor.probeList ∨ probed n →
      u.monitor.health[n] = (s.monitor.health[n]).claimDropped now (units n))
    (hkept : ∀ n : NodeIx, ¬ (n ∈ s.monitor.probeList ∨ probed n) → u.monitor.health[n] = s.monitor.health[n]) :
    MonitorHeld (fun _ => False) u := by
  refine ⟨⟨fun n => ?_, by rw [hlist]; exact List.nodup_nil, h.records.indicator.congr hi fun n => ?_⟩,
    dueListServes_nil hdue⟩
  · have hnil : n ∈ u.monitor.probeList ↔ False := by simp [hlist]
    rw [ha]
    by_cases hw : n ∈ s.monitor.probeList ∨ probed n
    · rw [hdropped n hw]
      exact ((h.records.record n).dropped now (units n)).congr .rfl hnil .rfl
    · rw [hkept n hw]
      exact ((h.records.record n).left hw).congr .rfl hnil .rfl
  · by_cases hw : n ∈ s.monitor.probeList ∨ probed n
    · rw [hdropped n hw]
      rfl
    · rw [hkept n hw]

/-- A flush by port drops every listed claim (R19, R58). -/
theorem MonitorHeld.flushPort {s : State} (h : MonitorHeld (fun _ => False) s) (status : Status) :
    MonitorHeld (fun _ => False) (flushPort status s) := by
  obtain ⟨-, -, -, hdue, hlist⟩ := flushPort_clear status s
  refine h.claimsDropped (now := s.time.clock) (units := fun n => (s.config.active.node[n]).probeUnits) (by simp)
    (by simp) hlist hdue (fun n hw => ?_) fun n hw => ?_
  · rw [flushPort_health, if_pos (hw.resolve_right id)]
  · rw [flushPort_health, if_neg fun hl => hw (.inl hl)]

/-- The state in which the port is ISOLATED and the flush by port has not begun (R44). -/
def portIsolated (s : State) : State :=
  setLineIndicator false { s with
    engine :=
      { clearAttempt s.engine with
        port := .isolated, txn := none, pendingIsolate := none, jamStart := none, txFrame := [], txStart := none
        dropDE := false } }

theorem isolate_eq_flushPort (answerIsolate : State → State) (s : State) :
    isolate answerIsolate s = answerIsolate (flushPort .isolated (portIsolated s)) := rfl

/-- Isolation keeps the law where the engine has no probe (R44). -/
theorem MonitorHeld.isolate {answerIsolate : State → State} (ha : ∀ u, dropView (answerIsolate u) = dropView u)
    {s : State} (h : MonitorHeld (fun _ => False) s) : MonitorHeld (fun _ => False) (isolate answerIsolate s) := by
  have hs : MonitorHeld (fun _ => False) (portIsolated s) := h.congr rfl rfl rfl rfl
  exact MonitorHeld.of_view (ha _) (hs.flushPort .isolated)

/-! ### The grant returned, and the jam (R10, R11, R58) -/

theorem returnGrant_probe {s : State} {t : Txn} {n : NodeIx} (ht : s.engine.txn = some t) (hc : t.claimant = .probe n) :
    returnGrant s =
      modifyHealth n (fun h => { h with claim := .listed })
        { s with monitor := { s.monitor with probeList := n :: s.monitor.probeList } } := by
  unfold returnGrant
  rw [ht]
  dsimp only
  rw [hc]

/-- Where the engine does not probe, a returned grant leaves the Node Monitor (R10). -/
theorem returnGrant_monitor {s : State} (h : ∀ n, ¬ probing s n) : (returnGrant s).monitor = s.monitor := by
  unfold returnGrant
  split
  · rfl
  · next t ht =>
    split
    · simp
    · rfl
    · next n hc => exact absurd (by simp [probing, ht, hc]) (h n)

/-- The engine's transaction is a probe of one node, or it probes none. -/
theorem probing_cases (s : State) :
    (∃ t n, s.engine.txn = some t ∧ t.claimant = .probe n ∧ ∀ m, probing s m ↔ m = n) ∨ ∀ n, ¬ probing s n := by
  unfold probing
  cases ht : s.engine.txn with
  | none => exact .inr (by simp)
  | some t =>
    cases hc : t.claimant with
    | host i => exact .inr (by simp [hc])
    | poll i => exact .inr (by simp [hc])
    | probe n => exact .inl ⟨t, n, rfl, hc, fun m => by simp [hc, eq_comm]⟩

/-- The grant returned and the port isolated: the engine's claim is dropped with the listed ones (R10, R19, R44). -/
theorem MonitorHeld.isolateReturned {answerIsolate : State → State}
    (ha : ∀ u, dropView (answerIsolate u) = dropView u) {s : State} (h : MonitorHeld (probing s) s) :
    MonitorHeld (fun _ => False) (Machine.isolate answerIsolate (returnGrant s)) := by
  rw [isolate_eq_flushPort]
  refine MonitorHeld.of_view (ha _) ?_
  obtain ⟨-, -, -, hdue, hlist⟩ := flushPort_clear .isolated (portIsolated (returnGrant s))
  have hmon : (portIsolated (returnGrant s)).monitor = (returnGrant s).monitor := rfl
  have hactive : (portIsolated (returnGrant s)).config.active = s.config.active := by simp [portIsolated]
  have hclock : (portIsolated (returnGrant s)).time.clock = s.time.clock := by simp [portIsolated]
  have hind : (Machine.flushPort .isolated (portIsolated (returnGrant s))).status.indNode = s.status.indNode := by
    have hkept : (portIsolated (returnGrant s)).status.indNode = (returnGrant s).status.indNode := rfl
    simp [hkept]
  rcases probing_cases s with ⟨t, n, ht, hc, hprobing⟩ | hno
  · refine h.claimsDropped (now := s.time.clock) (units := fun n => (s.config.active.node[n]).probeUnits)
      (by rw [← hactive]; simp) hind hlist hdue (fun m hm => ?_) fun m hm => ?_
    · rw [flushPort_health, hmon, hactive, hclock, returnGrant_probe ht hc]
      rw [modifyHealth_probeList, if_pos (by simpa [hprobing, or_comm] using hm), modifyHealth_health]
      by_cases hmn : m = n
      · subst hmn
        simp [Health.claimDropped]
      · rw [if_neg hmn]
    · obtain ⟨hml, hmp⟩ := not_or.1 hm
      have hmn : m ≠ n := fun e => hmp ((hprobing m).2 e)
      rw [flushPort_health, hmon, returnGrant_probe ht hc, modifyHealth_probeList, if_neg (by simp [hmn, hml]),
        modifyHealth_health, if_neg hmn]
  · have hmonitor := returnGrant_monitor hno
    refine h.claimsDropped (now := s.time.clock) (units := fun n => (s.config.active.node[n]).probeUnits)
      (by rw [← hactive]; simp) hind hlist hdue (fun m hm => ?_) fun m hm => ?_
    · rw [flushPort_health, hmon, hactive, hclock, hmonitor]
      rw [if_pos (hm.resolve_right (hno m))]
    · rw [flushPort_health, hmon, hmonitor, if_neg fun hl => hm (.inl hl)]

theorem jamTransaction_health (n : NodeIx) (s : State) :
    (probing s n → (jamTransaction s).monitor.health[n] =
      (s.monitor.health[n]).claimDropped s.time.clock (s.config.active.node[n]).probeUnits) ∧
    (¬ probing s n → (jamTransaction s).monitor.health[n] = s.monitor.health[n]) := by
  unfold jamTransaction probing
  cases ht : s.engine.txn with
  | none => simp
  | some t =>
    dsimp only
    cases hc : t.claimant with
    | host i => simp [hc]
    | poll i => simp [hc]
    | probe m =>
      dsimp only
      rw [dropProbe_eq, modifyHealth_health]
      by_cases hm : n = m
      · subst hm
        simp [hc]
      · simp [hc, hm, Ne.symm hm]

/-- A jam drops every claim, the engine's included (R11, R19, R58). -/
theorem MonitorHeld.enterJammed {s : State} (h : MonitorHeld (probing s) s) :
    MonitorHeld (fun _ => False) (enterJammed s) := by
  obtain ⟨-, -, -, hdue, hlist⟩ := enterJammed_clear s
  have hind : (Machine.enterJammed s).status.indNode = s.status.indNode := by
    have hbump : ∀ c u, (bump c u).status.indNode = u.status.indNode := fun _ _ => rfl
    have hline : ∀ b u, (setLineIndicator b u).status.indNode = u.status.indNode := fun _ _ => rfl
    rw [enterJammed_eq]
    simp [hbump, hline, jamStarted, jamAbandon]
  refine h.claimsDropped (now := s.time.clock) (units := fun n => (s.config.active.node[n]).probeUnits) (by simp) hind
    hlist hdue (fun n hw => ?_) fun n hw => ?_
  · obtain ⟨hin, hout⟩ := jamTransaction_health n s
    rw [enterJammed_health]
    by_cases hp : probing s n
    · rw [hin hp, claimDropped_idem, ite_self]
    · rw [hout hp, if_pos (hw.resolve_right hp)]
  · obtain ⟨hl, hp⟩ := not_or.1 hw
    rw [enterJammed_health, if_neg hl, (jamTransaction_health n s).2 hp]

/-! ### Presence updates (R64) -/

theorem updatePresence_added (n : NodeIx) (s : State) :
    updatePresence false true n s = modifyHealth n (fun _ => Health.cleared .unknown) s := rfl

/-- The record that a removed node is left with, and the others (R64). -/
theorem updatePresence_removed (n : NodeIx) (s : State) :
    (updatePresence true false n s).monitor.probeList = s.monitor.probeList.filter (fun m => m != n) ∧
    (∀ m : NodeIx, (updatePresence true false n s).monitor.health[m] =
      if m = n then Health.cleared .absent else s.monitor.health[m]) ∧
    NodeIndicated (updatePresence true false n s) := by
  refine ⟨?_, fun m => ?_, nodeIndicated_eval _⟩
  · simp [updatePresence]
  · change (modifyHealth n (fun _ => Health.cleared .absent) _).monitor.health[m] = _
    rw [modifyHealth_health]
    split
    · rfl
    · next hm => rw [unlistProbe_health, if_neg hm, (flush_keeps ..).2.2.2.2.2.2.1, modifyHealth_health, if_neg hm]

/-- The presence update of one node makes its record that of its new entry (R64). -/
theorem RecordsHeld.updatePresence {present probed : NodeIx → Prop} {n : NodeIx} {before after : Bool} {s : State}
    (h : RecordsHeld present probed s) (hb : present n ↔ before = true) :
    RecordsHeld (fun m => if m = n then after = true else present m) probed (updatePresence before after n s) := by
  have hother : ∀ m, m ≠ n → ((if m = n then after = true else present m) ↔ present m) := fun m hm => by rw [if_neg hm]
  have hsame : before = after → RecordsHeld (fun m => if m = n then after = true else present m) probed s := by
    rintro rfl
    refine ⟨fun m => (h.record m).congr ?_ .rfl .rfl, h.nodup, h.indicator⟩
    by_cases hm : m = n
    · rw [if_pos hm, hm, hb]
    · rw [if_neg hm]
  cases before with
  | false =>
    cases after with
    | false => exact hsame rfl
    | true =>
      have habsent : (s.monitor.health[n]).state = .absent := (h.record n).absent.2 (by simp [hb])
      have hl : n ∉ s.monitor.probeList := fun hl =>
        ((h.record n).not_waiting (by simp [-Fin.getElem_fin, habsent])).1 ((h.record n).listed.1 hl)
      rw [updatePresence_added]
      refine h.changed (changesNode_modifyHealth n _ ?_) ?_ hother fun _ _ => .rfl
      · exact iff_of_false (by simp [Health.cleared]) (by simp [-Fin.getElem_fin, habsent])
      · rw [modifyHealth_health, if_pos rfl, if_pos rfl]
        exact (RecordHeld.cleared (by simp) (by simp)).congr (by simp) (iff_of_false hl id) .rfl
  | true =>
    cases after with
    | true => exact hsame rfl
    | false =>
      obtain ⟨hlist, hhealth, hind⟩ := updatePresence_removed n s
      refine h.changed ⟨by simp, fun m hm => by rw [hhealth, if_neg hm], fun m hm => ?_, fun hn => ?_, fun _ => hind⟩ ?_
        hother fun _ _ => .rfl
      · rw [hlist, List.mem_filter]
        simp [hm]
      · rw [hlist]
        exact hn.filter _
      · rw [hhealth, if_pos rfl, if_pos rfl]
        exact RecordHeld.clearedAbsent.congr (by simp) (by simp [hlist]) .rfl

/-- The presence update of each node of a list, none twice, makes its record that of its new entry (R64). -/
theorem RecordsHeld.foldl_updatePresence {probed : NodeIx → Prop} {old new : Tables} {l : List NodeIx} (hl : l.Nodup)
    {present : NodeIx → Prop} {s : State} (h : RecordsHeld present probed s) (hnew : s.config.active = new)
    (hold : ∀ n ∈ l, present n ↔ presentIn old n) :
    RecordsHeld (fun m => if m ∈ l then presentIn new m else present m) probed
      (l.foldl (fun s n => Machine.updatePresence (old.node[n]).present (s.config.active.node[n]).present n s) s) := by
  induction l generalizing present s with
  | nil => simpa using h
  | cons n l ih =>
    obtain ⟨hn, hl⟩ := List.nodup_cons.1 hl
    have hstep := h.updatePresence (n := n) (after := (s.config.active.node[n]).present)
      (hold n List.mem_cons_self)
    have hrest := ih hl hstep (by simp [hnew]) fun m hm => by
      have hmn : m ≠ n := fun e => hn (e ▸ hm)
      rw [if_neg hmn]
      exact hold m (List.mem_cons_of_mem n hm)
    refine ⟨fun m => (hrest.record m).congr ?_ .rfl .rfl, hrest.nodup, hrest.indicator⟩
    by_cases hm : m ∈ l
    · simp [hm]
    · by_cases hmn : m = n
      · subst hmn
        simp [hm, presentIn, hnew]
      · simp [hm, hmn]

/-- The presence updates of a commit make the records those of the new bank (R64). -/
theorem RecordsHeld.updateNodes {probed : NodeIx → Prop} {old : Tables} {s : State}
    (h : RecordsHeld (presentIn old) probed s) :
    RecordsHeld (presentIn s.config.active) probed (updateNodes old s) := by
  have hall := h.foldl_updatePresence (old := old) (new := s.config.active) (List.nodup_finRange 30) rfl
    fun _ _ => .rfl
  refine ⟨fun n => (hall.record n).congr (by simp) .rfl .rfl, hall.nodup, hall.indicator⟩

/-! ### The boundary (R69, R71, R122) -/

/-- The due list that is formed holds each entry once, and only used ones whose node is in service (R71). -/
theorem dueListServes_formDue (s : State) : DueListServes (formDue s) := by
  have hlist : (formDue s).calendar.dueList = formDueList s := rfl
  have hhealth : ∀ a, healthOf (formDue s) a = healthOf s a := healthOf_congr (formDue_keeps s).2.2.2.2.2.2.2.1
  unfold DueListServes
  rw [hlist]
  unfold formDueList
  split
  · simp
  · refine ⟨(List.nodup_finRange 64).filter _, fun i hi => ?_⟩
    rw [List.mem_filter] at hi
    simp only [Bool.and_eq_true] at hi
    obtain ⟨-, ⟨hused, -⟩, hserve⟩ := hi
    rw [hhealth]
    exact ⟨hused, hserve⟩

theorem applyCommit_active (tag : Tag) (s : State) : (applyCommit tag s).config.active = s.config.shadow := by
  rw [applyCommit_eq, (raise_keeps ..).2.2.2.2.2.2.2.2.2.1]
  simp [commitAnswered_keeps, installShadow]

theorem RecordsHeld.applyCommit {probed : NodeIx → Prop} {s : State}
    (h : RecordsHeld (presentIn s.config.active) probed s) (tag : Tag) :
    RecordsHeld (presentIn (applyCommit tag s).config.active) probed (applyCommit tag s) := by
  have hinstalled : RecordsHeld (presentIn s.config.active) probed (installShadow s) := h.congr rfl rfl
  rw [applyCommit_active, applyCommit_eq]
  exact hinstalled.updateNodes.congr (by simp [commitAnswered_keeps]) (by simp; rfl)

theorem RecordsHeld.applyPending {probed : NodeIx → Prop} {s : State}
    (h : RecordsHeld (presentIn s.config.active) probed s) :
    RecordsHeld (presentIn (applyPending s).config.active) probed (applyPending s) := by
  unfold Machine.applyPending
  split
  · exact h.applyCommit _
  · exact h

@[simp] theorem accountLeftovers_indNode (s : State) : (accountLeftovers s).status.indNode = s.status.indNode := by
  have hbump : ∀ c u, (bump c u).status.indNode = u.status.indNode := fun _ _ => rfl
  unfold accountLeftovers
  dsimp only
  split <;> simp [foldl_keeps (fun s : State => s.status.indNode), hbump]

/-- The five steps of a boundary keep the law: the leftovers are gone, a commit makes the records those of its bank, and the
new due list is formed from them (R69). -/
theorem MonitorHeld.boundary {probed : NodeIx → Prop} {s : State} (h : MonitorHeld probed s) :
    MonitorHeld probed (boundary s) := by
  have hcounted : RecordsHeld (presentIn (countCycle (accountLeftovers s)).config.active) probed
      (countCycle (accountLeftovers s)) := by
    have hactive : (countCycle (accountLeftovers s)).config.active = s.config.active := by simp
    rw [hactive]
    exact h.records.congr (by simp) (by simp)
  exact ⟨hcounted.applyPending.congr rfl rfl, dueListServes_formDue _⟩

end Sys2Proof.Machine
end

section
/-! PROOF. The law of the Node Monitor is kept by every step (R26, R49, R50, R55 to R57, R71, R72). -/

namespace Sys2Proof.Machine

/-! ### The law and the engine's transaction -/

/-- The law of the Node Monitor, with the engine's part in it (R26, R57). -/
def MonitorLaw (s : State) : Prop :=
  MonitorHeld (probing s) s ∧ RestHasNoTxn s

theorem not_probing {s : State} (ht : s.engine.txn = none) (n : NodeIx) : ¬ probing s n := by
  simp [probing, ht]

theorem MonitorLaw.unprobed {s : State} (h : MonitorLaw s) (hp : ∀ n, ¬ probing s n) : MonitorHeld (fun _ => False) s :=
  h.1.congr_probed fun n => iff_of_false id (hp n)

/-- Where the engine has no transaction, the law is that of the records and the due list. -/
theorem monitorLaw_of_noTxn {s : State} (h : MonitorHeld (fun _ => False) s) (ht : s.engine.txn = none) :
    MonitorLaw s :=
  ⟨h.congr_probed fun n => iff_of_false (not_probing ht n) id, fun _ => ht⟩

/-- The port attends to a transaction (R26). -/
def PortBusy (s : State) : Prop :=
  s.engine.port ≠ .idle ∧ s.engine.port ≠ .jammed ∧ s.engine.port ≠ .isolated

theorem portBusy_of {s : State} {p : PortState} (hp : s.engine.port = p)
    (hb : p ≠ .idle ∧ p ≠ .jammed ∧ p ≠ .isolated) : PortBusy s := by
  unfold PortBusy
  rw [hp]
  exact hb

theorem PortBusy.restHasNoTxn {s : State} (h : PortBusy s) : RestHasNoTxn s := fun hr =>
  absurd hr (by simp [h.1, h.2.1, h.2.2])

/-- A change that keeps the claimant of the transaction, in a port that attends to it, keeps the law. -/
theorem monitorLaw_busy {s u : State} (h : MonitorLaw s) (hm : u.monitor = s.monitor)
    (ha : u.config.active = s.config.active) (hi : u.status.indNode = s.status.indNode)
    (hd : u.calendar.dueList = s.calendar.dueList)
    (hc : u.engine.txn.map Txn.claimant = s.engine.txn.map Txn.claimant) (hb : PortBusy u) : MonitorLaw u :=
  ⟨(h.1.congr hm ha hi hd).congr_probed fun n => by unfold probing; rw [hc], hb.restHasNoTxn⟩

theorem monitorLaw_of_view {s u : State} (hv : dropView u = dropView s) (h : MonitorLaw s) : MonitorLaw u := by
  obtain ⟨hp, ht, -⟩ := dropView_eq_iff.1 hv
  refine ⟨(h.1.of_view hv).congr_probed fun n => by unfold probing; rw [ht], ?_⟩
  unfold RestHasNoTxn
  rw [hp, ht]
  exact h.2

/-! ### Resets (R65, R66, R126) -/

/-- The hard-reset values of the Node Monitor, the ACTIVE bank, the indicator and the due list meet the law (R65, R126). -/
theorem monitorHeld_blank {straps : Straps} {cause : ResetCause} {s : State}
    (hm : s.monitor = (State.blank straps cause).monitor) (ha : s.config.active = Tables.cleared)
    (hi : s.status.indNode = false) (hd : s.calendar.dueList = []) : MonitorHeld (fun _ => False) s := by
  have hhealth : ∀ n : NodeIx, s.monitor.health[n] = Health.cleared .absent := fun n => by
    rw [hm]
    simp [State.blank]
  have hlist : s.monitor.probeList = [] := by rw [hm]; rfl
  refine ⟨⟨fun n => ?_, by rw [hlist]; exact List.nodup_nil, ?_⟩, dueListServes_nil hd⟩
  · rw [hhealth, hlist, ha]
    exact RecordHeld.clearedAbsent.congr (by simp [presentIn, Tables.cleared]) (by simp) .rfl
  · refine iff_of_false (by simp [hi]) ?_
    rintro ⟨n, hn⟩
    rw [hhealth] at hn
    cases hn

theorem monitorHeld_softReset {probed : NodeIx → Prop} {s : State} (h : MonitorHeld probed s) :
    MonitorHeld (fun _ => False) (softReset s) := by
  have hhealth : ∀ n : NodeIx, (softReset s).monitor.health[n] = (s.monitor.health[n]).softReset := fun n => by
    simp [softReset, Monitor.softReset]
  have hlist : (softReset s).monitor.probeList = [] := rfl
  refine ⟨⟨fun n => ?_, by rw [hlist]; exact List.nodup_nil, ?_⟩, dueListServes_nil rfl⟩
  · rw [hhealth, hlist]
    exact (h.records.record n).softReset.congr .rfl (by simp) .rfl
  · refine iff_of_false (by simp [softReset, StatusUnit.softReset]) ?_
    rintro ⟨n, hn⟩
    rw [hhealth] at hn
    unfold Health.softReset at hn
    split at hn <;> cases hn

/-! ### Grants (R9, R57) -/

/-- The claim at the head of the probe list becomes the engine's. -/
theorem monitorHeld_grantProbe {n : NodeIx} {rest : List NodeIx} {s : State} (h : MonitorHeld (fun _ => False) s)
    (hl : s.monitor.probeList = n :: rest) :
    MonitorHeld (· = n)
      (modifyHealth n (fun h => { h with claim := .active })
        { s with monitor := { s.monitor with probeList := rest } }) := by
  obtain ⟨hn, hrest⟩ := List.nodup_cons.1 (hl ▸ h.records.nodup)
  have hhealth : ∀ m : NodeIx,
      (modifyHealth n (fun h => { h with claim := .active })
        { s with monitor := { s.monitor with probeList := rest } }).monitor.health[m] =
        if m = n then { s.monitor.health[n] with claim := .active } else s.monitor.health[m] := fun m =>
    modifyHealth_health ..
  have hstate : ∀ m : NodeIx,
      ((modifyHealth n (fun h => { h with claim := .active })
        { s with monitor := { s.monitor with probeList := rest } }).monitor.health[m]).state =
        (s.monitor.health[m]).state := fun m => by
    rw [hhealth]
    split
    · next e => rw [e]
    · rfl
  refine h.changed (n := n) ⟨rfl, fun m hm => by rw [hhealth, if_neg hm], fun m hm => ?_, fun _ => hrest, fun hi => ?_⟩
    ?_ (fun m hm => iff_of_false hm id) rfl fun hs => ?_
  · rw [modifyHealth_probeList, hl]
    simp [hm]
  · exact hi.congr rfl fun m => by rw [hstate]
  · rw [hhealth, if_pos rfl, modifyHealth_probeList]
    exact ((h.records.record n).congr .rfl (by simp [hl]) .rfl).granted.congr .rfl (iff_of_false hn id) (by simp)
  · rw [hstate]
    exact hs

/-- In GUARD the law is about the transaction that entered it (R27). -/
theorem monitorLaw_guardEntered {t : Txn} {probed : NodeIx → Prop} {s : State} (h : MonitorHeld probed s)
    (hc : ∀ n, t.claimant = .probe n ↔ probed n) : MonitorLaw (guardEntered t s) := by
  have hg : MonitorHeld probed (guardEntered t s) := h.congr rfl rfl rfl rfl
  refine ⟨hg.congr_probed fun n => ?_, (portBusy_of (p := .guard) rfl (by decide)).restHasNoTxn⟩
  rw [← hc]
  exact Option.some_inj

/-! ### Attempts and outcomes (R28, R36, R59) -/

theorem beginAttempt_claimant {t : Txn} {s : State} (ht : s.engine.txn = some t) :
    (beginAttempt t s).engine.txn.map Txn.claimant = s.engine.txn.map Txn.claimant := by
  unfold beginAttempt countAttempt
  dsimp only
  cases hc : t.claimant <;> split <;> simp [ht, hc]

theorem beginAttempt_rest (t : Txn) (s : State) :
    (beginAttempt t s).monitor = s.monitor ∧ (beginAttempt t s).config = s.config ∧
      (beginAttempt t s).status.indNode = s.status.indNode ∧ (beginAttempt t s).calendar = s.calendar := by
  have hbump : ∀ c u, (bump c u).status.indNode = u.status.indNode := fun _ _ => rfl
  unfold beginAttempt countAttempt
  dsimp only
  cases t.claimant <;> split <;> simp [hbump]

/-- The outcome handed on leaves the law without a probe under way (R36, R59). -/
theorem monitorHeld_delivered {t : Txn} {s : State} (h : MonitorHeld (probing s) s) (ht : s.engine.txn = some t)
    (result : DropResult) :
    MonitorHeld (fun _ => False) (deliverToMonitor t result (deliverToOwner t result s)) := by
  have hprobing : ∀ n, probing s n ↔ t.claimant = .probe n := fun n => by simp [probing, ht]
  have hout : ∀ u, dropView u = dropView s → (∀ n, t.claimant ≠ .probe n) →
      MonitorHeld (fun _ => False) (deliverToMonitor t result u) := fun u hv hc => by
    have hu : MonitorHeld (fun _ => False) u :=
      (h.of_view hv).congr_probed fun n => iff_of_false id (mt (hprobing n).1 (hc n))
    unfold deliverToMonitor
    split
    · exact hu
    · exact hu.applyOutcome id result _
    · exact hu
  unfold deliverToOwner
  cases hc : t.claimant with
  | host i => exact hout _ (dropView_finishHost ..) (by simp [hc])
  | poll i => exact hout _ (dropView_pollOutcome ..) (by simp [hc])
  | probe n =>
    have hown : MonitorHeld (· = n) s := h.congr_probed fun m => by rw [hprobing, hc, Claimant.probe.injEq, eq_comm]
    unfold deliverToMonitor
    rw [hc]
    exact hown.probeOutcome result _

theorem monitorLaw_isolate {answerIsolate : State → State} (ha : ∀ u, dropView (answerIsolate u) = dropView u)
    {s : State} (h : MonitorHeld (fun _ => False) (isolate answerIsolate s)) : MonitorLaw (isolate answerIsolate s) := by
  obtain ⟨-, ht, -⟩ := dropView_eq_iff.1 (ha (flushPort .isolated (portIsolated s)))
  exact monitorLaw_of_noTxn h (by rw [isolate_eq_flushPort, ht]; simp [portIsolated])

theorem monitorLaw_isolateForPending {s : State} (h : MonitorHeld (fun _ => False) s) (tag : Tag) :
    MonitorLaw (isolateForPending tag s) := by
  have ha := dropView_deferredReply tag .ok [.raw [PortState.isolated.code]]
  exact monitorLaw_isolate ha (h.isolate ha)

theorem monitorLaw_leaveTransaction {s : State} (h : MonitorHeld (fun _ => False) s) :
    MonitorLaw (leaveTransaction s) := by
  unfold leaveTransaction
  split
  · exact monitorLaw_isolateForPending h _
  · exact monitorLaw_of_noTxn (h.congr rfl rfl rfl rfl) rfl

theorem monitorLaw_deliver {t : Txn} {s : State} (h : MonitorLaw s) (ht : s.engine.txn = some t)
    (result : DropResult) : MonitorLaw (deliver t result s) :=
  monitorLaw_leaveTransaction (monitorHeld_delivered h.1 ht result)

/-! ### Requests and timers (R56, R60 to R62) -/

/-- A timer's expiry lists the node's claim (R56). -/
theorem monitorHeld_listProbe {probed : NodeIx → Prop} {n : NodeIx} {s : State} (h : MonitorHeld probed s)
    (hd : (s.monitor.health[n]).probeDue.isSome = true) : MonitorHeld probed (listProbe n s) := by
  have hr := h.records.record n
  have hhealth : ∀ m : NodeIx, (listProbe n s).monitor.health[m] =
      if m = n then { s.monitor.health[n] with claim := .listed, probeDue := none } else s.monitor.health[m] :=
    fun m => modifyHealth_health ..
  have hlist : (listProbe n s).monitor.probeList = s.monitor.probeList ++ [n] := rfl
  have hstate : ∀ m : NodeIx, ((listProbe n s).monitor.health[m]).state = (s.monitor.health[m]).state := fun m => by
    rw [hhealth]
    split
    · next e => rw [e]
    · rfl
  have hn : n ∉ s.monitor.probeList := fun hl => by
    have hclaim := hr.listed.1 hl
    rw [hr.due hd] at hclaim
    cases hclaim
  refine h.changed ⟨rfl, fun m hm => by rw [hhealth, if_neg hm], fun m hm => by simp [hlist, hm], fun hnd => ?_,
    fun hi => hi.congr rfl fun m => by rw [hstate]⟩ ?_ (fun _ _ => .rfl) rfl fun hs => ?_
  · rw [hlist]
    simpa using hnd.concat hn
  · rw [hhealth, if_pos rfl]
    exact (hr.toListed hd).congr .rfl (by simp [hlist]) .rfl
  · rw [hstate]
    exact hs

theorem disableNode_due (n : NodeIx) (s : State) :
    (disableNode n s).calendar.dueList =
      s.calendar.dueList.filter (fun i => (s.config.active.poll[i]).node != nodeAddr n) := by
  rw [disableNode_eq]
  exact congrArg Calendar.dueList (failCells_flush_calendar n .nodeDisabled s)

/-- NODE_DISABLE takes a node out of service with its claim and its polls (R60, R73). -/
theorem monitorHeld_disableNode {probed : NodeIx → Prop} {n : NodeIx} {s : State} (h : MonitorHeld probed s)
    (ha : (s.monitor.health[n]).state ≠ .absent) : MonitorHeld probed (disableNode n s) := by
  have hlist : (disableNode n s).monitor.probeList = s.monitor.probeList.filter (fun m => m != n) := by
    rw [disableNode_eq]
    rfl
  refine h.changedOut ⟨by simp, fun m hm => by rw [disableNode_health, if_neg hm], fun m hm => by simp [hlist, hm],
    fun hn => ?_, fun _ => ?_⟩ ?_ (fun _ _ => .rfl) (disableNode_due n s)
  · rw [hlist]
    exact hn.filter _
  · rw [disableNode_eq]
    exact nodeIndicated_eval _
  · rw [disableNode_health, if_pos rfl]
    exact ((h.records.record n).disabled ha).congr .rfl (by simp [hlist]) .rfl

/-! ### Every step -/

theorem monitorLaws : DropLaws MonitorLaw where
  of_view := monitorLaw_of_view
  at_begin source s :=
    monitorLaw_of_noTxn (monitorHeld_blank (straps := s.straps) (cause := beginCause source s.held) rfl rfl rfl rfl) rfl
  at_release straps s := by
    rw [releaseReset_eq]
    exact monitorLaw_of_noTxn (monitorHeld_blank (straps := straps) (cause := s.held.getD .pin) rfl rfl rfl rfl) rfl
  of_softReset _ h := monitorLaw_of_noTxn (monitorHeld_softReset h.1) rfl
  of_grant t s hp ht h :=
    monitorLaw_guardEntered (h.unprobed (not_probing (h.2 (.inl hp)))) fun n => iff_of_false (ht n) id
  of_grantProbe t n rest s hp hl ht h :=
    monitorLaw_guardEntered (monitorHeld_grantProbe (h.unprobed (not_probing (h.2 (.inl hp)))) hl) fun m => by
      rw [ht, Claimant.probe.injEq, eq_comm]
  of_dueTail i rest s hd h :=
    ⟨⟨h.1.records.congr rfl rfl, h.1.due.shrink rfl (by rw [hd]; exact List.sublist_cons_self ..) fun _ => .inl⟩, h.2⟩
  of_retry t s hp ht h :=
    monitorLaw_busy h rfl rfl rfl rfl (by simp [guardEntered, ht])
      (portBusy_of (p := .guard) rfl (by decide))
  of_beginAttempt t s hp ht h := by
    obtain ⟨hm, hc, hi, hd⟩ := beginAttempt_rest t s
    obtain ⟨hport, -⟩ := beginAttempt_engine t s
    exact monitorLaw_busy h hm (by rw [hc]) hi (by rw [hd]) (beginAttempt_claimant ht)
      (portBusy_of hport (by decide))
  of_sentBroadcast t s hp ht h := by
    have hs : MonitorLaw (requestEnded s) :=
      monitorLaw_busy h rfl rfl rfl rfl rfl (portBusy_of (p := .sending) hp (by decide))
    refine monitorLaw_deliver (monitorLaw_of_view (dropView_markSent t _) hs) ?_ _
    rw [(dropView_eq_iff.1 (dropView_markSent t (requestEnded s))).2.1]
    exact ht
  of_sentNode t s hp ht h := by
    have hs : MonitorLaw (requestEnded s) :=
      monitorLaw_busy h rfl rfl rfl rfl rfl (portBusy_of (p := .sending) hp (by decide))
    exact monitorLaw_busy (monitorLaw_of_view (dropView_markSent t _) hs) rfl rfl rfl rfl rfl
      (portBusy_of (p := .awaiting) rfl (by decide))
  of_firstChar first s hp h := monitorLaw_busy h rfl rfl rfl rfl rfl (portBusy_of (p := .receiving) rfl (by decide))
  of_deliver t result s _ ht h := monitorLaw_deliver h ht result
  of_jam s hp h := monitorLaw_of_noTxn h.1.enterJammed (by simp [enterJammed_eq, jamStarted, jamAbandon])
  of_leaveJammed s hp h := by
    have ht : s.engine.txn = none := h.2 (.inr (.inl hp))
    refine monitorLaw_of_view (dropView_raise ..) (monitorLaw_of_noTxn ?_ ht)
    exact (h.unprobed (not_probing ht)).congr rfl rfl rfl rfl
  of_leaveTail s hp ht h := by
    have hs : MonitorHeld (fun _ => False) (releaseLine s) := (h.unprobed (not_probing ht)).congr rfl rfl rfl rfl
    cases hpend : s.engine.pendingIsolate with
    | some tag =>
      rw [leaveTail_isolate hpend]
      exact monitorLaw_isolateForPending hs tag
    | none =>
      rw [leaveTail_idle hpend]
      exact monitorLaw_of_noTxn (hs.congr rfl rfl rfl rfl) ht
  of_isolate f s hp h := by
    have ht : s.engine.txn = none := h.2 (hp.imp_right .inl)
    exact monitorLaw_isolate (dropView_answerPort f) ((h.unprobed (not_probing ht)).isolate (dropView_answerPort f))
  of_isolateInGuard f s _ h :=
    monitorLaw_isolate (dropView_answerPort f) (h.1.isolateReturned (dropView_answerPort f))
  of_leaveIsolated s hp h := by
    have ht : s.engine.txn = none := h.2 (.inr (.inr hp))
    exact monitorLaw_of_noTxn ((h.unprobed (not_probing ht)).congr rfl rfl rfl rfl) ht
  of_boundary s h := by
    have he : (boundary s).engine = s.engine := by simp
    refine ⟨h.1.boundary.congr_probed fun n => by unfold probing; rw [he], ?_⟩
    unfold RestHasNoTxn
    rw [he]
    exact h.2
  of_listProbe n s hd h := ⟨monitorHeld_listProbe h.1 hd, h.2⟩
  of_armProbe n s hd h :=
    ⟨h.1.modifyHealth (fun _ _ => .rfl) ((h.1.records.record n).armed hd _) .rfl id, h.2⟩
  of_enable n s hd h :=
    ⟨h.1.modifyHealth (fun _ _ => .rfl) ((h.1.records.record n).enabled hd)
      (iff_of_false (by simp) (by simp [-Fin.getElem_fin, hd])) fun _ => rfl, h.2⟩
  of_disable n s ha h := by
    have he : (disableNode n s).engine = s.engine := by simp [disableNode]
    refine ⟨(monitorHeld_disableNode h.1 ha).congr_probed fun n => by unfold probing; rw [he], ?_⟩
    unfold RestHasNoTxn
    rw [he]
    exact h.2

/-- Settles O58: the commands that touch the port, the records, the ACTIVE bank or the due list are gone through in
`DropLaws`, and each keeps the law record by record (`RecordHeld`). -/
theorem everyStepKeepsMonitorConsistent : Obligations.EveryStepKeepsMonitorConsistent := by
  intro s u h hu
  rw [monitorConsistent_iff] at h ⊢
  exact monitorLaws.step h hu

end Sys2Proof.Machine
end

section
/-! PROOF. The straps, the ACTIVE bank and the generation are held by every command but their owners (R24, R109, R123, R153,
R177). -/

namespace Sys2Proof.Machine

/-! ### What is held -/

/-- What a hard reset latches, and what a commit replaces at a boundary (R24, R109, R123, R153). -/
structure HeldView where
  segment : Fin 16
  rate : Fin 4
  active : Tables
  generation : Word32

/-- The straps last latched, the ACTIVE bank and the generation of a state. -/
def heldView (s : State) : HeldView where
  segment := s.segment
  rate := s.rate
  active := s.config.active
  generation := s.config.generation

theorem heldView_eq_iff {s u : State} :
    heldView u = heldView s ↔ u.segment = s.segment ∧ u.rate = s.rate ∧ u.config.active = s.config.active ∧
      u.config.generation = s.config.generation := by
  simp only [heldView, HeldView.mk.injEq]

/-- What leaves the straps and the Configuration Unit leaves the view. -/
theorem heldView_congr {s u : State} (hs : u.segment = s.segment) (hr : u.rate = s.rate) (hc : u.config = s.config) :
    heldView u = heldView s := by
  simp only [heldView, hs, hr, hc]

/-! ### The Configuration Unit outside the boundary (R114 to R120) -/

@[simp] theorem heldView_closeSession (s : State) : heldView (closeSession s) = heldView s := rfl

@[simp] theorem heldView_reply (f : ManageFrame) (status : Status) (detail : Byte) (body : List Piece) (s : State) :
    heldView (reply f status detail body s) = heldView s := rfl

@[simp] theorem heldView_decideA (s : State) : heldView (decideA s) = heldView s :=
  heldView_congr (by simp) (by simp) (by simp)

@[simp] theorem heldView_relayDown (bytes : List Byte) (arrival : Stamp) (s : State) :
    heldView (relayDown bytes arrival s) = heldView s :=
  heldView_congr (by simp) (by simp) (by simp)

theorem heldView_ownEditOpen (f : ManageFrame) (s : State) : heldView (ownEditOpen f s) = heldView s := by
  unfold ownEditOpen
  split <;> rfl

theorem heldView_ownEditClose (f : ManageFrame) (s : State) : heldView (ownEditClose f s) = heldView s := by
  unfold ownEditClose
  repeat' split
  all_goals rfl

theorem heldView_ownEntryWrite (f : ManageFrame) (s : State) : heldView (ownEntryWrite f s) = heldView s := by
  unfold ownEntryWrite
  repeat' split
  all_goals rfl

theorem heldView_ownEntryRead (f : ManageFrame) (s : State) : heldView (ownEntryRead f s) = heldView s := by
  unfold ownEntryRead
  repeat' split
  all_goals rfl

theorem heldView_ownCommit (f : ManageFrame) (s : State) : heldView (ownCommit f s) = heldView s := by
  unfold ownCommit
  repeat' split
  all_goals rfl

theorem heldView_softReset (s : State) : heldView (softReset s) = heldView s := rfl

theorem heldView_raise (kind : NoticeKind) (node : Option NodeAddr) (detail : Word) (s : State) :
    heldView (raise kind node detail s) = heldView s :=
  heldView_congr (by simp) (by simp) (by simp)

/-- A session's expiry reloads the SHADOW bank alone (R121). -/
theorem heldView_sessionExpiry (s : State) : heldView (sessionExpiry s) = heldView s := by
  unfold sessionExpiry expireSession
  split
  · split
    · rw [heldView_decideA, heldView_raise, heldView_closeSession]
    · rfl
  · rfl

/-! ### Owners and Intake -/

/-- The owner of each code leaves the view. -/
theorem heldView_ownerOf (code : ManageCode) (t : Arrival) (f : ManageFrame) (s : State) :
    heldView (ownerOf code t f s) = heldView s := by
  cases code with
  | editOpen => exact heldView_ownEditOpen f s
  | editClose => exact heldView_ownEditClose f s
  | entryWrite => exact heldView_ownEntryWrite f s
  | entryRead => exact heldView_ownEntryRead f s
  | commit => exact heldView_ownCommit f s
  | nodeRead | nodeEnable | nodeDisable | nodeRevive | cellRead | dropIsolate | dropResume | noticeAck | noticeMask
  | clockRead | epochSet | statusRead | countersRead =>
    exact heldView_congr (by simp [ownerOf]) (by simp [ownerOf]) (by simp [ownerOf])
  | segmentReset => exact (heldView_raise ..).trans ((heldView_reply ..).trans (heldView_softReset s))

theorem heldView_intakeRequest (op : Op) (f : RequestFrame) (s : State) :
    heldView (intakeRequest op f s) = heldView s := heldView_congr (by simp) (by simp) (by simp)

theorem heldView_intakeBroadcastWrite (f : RequestFrame) (s : State) :
    heldView (intakeBroadcastWrite f s) = heldView s := heldView_congr (by simp) (by simp) (by simp)

theorem heldView_abortEffect (f : AbortFrame) (s : State) : heldView (abortEffect f s) = heldView s := by
  unfold abortEffect
  split
  · exact heldView_congr (by simp) (by simp) (by simp)
  · rfl
  · rfl
  · rfl

theorem heldView_intakeAbort (f : AbortFrame) (s : State) : heldView (intakeAbort f s) = heldView s := by
  unfold intakeAbort
  rw [heldView_decideA]
  repeat' split
  · rfl
  · rfl
  · rfl
  · exact heldView_abortEffect f s

theorem heldView_intakeManage (code : ManageCode) (t : Arrival) (f : ManageFrame) (s : State) :
    heldView (intakeManage code (ownerOf code t) f s) = heldView s :=
  manageChecks_keeps heldView heldView_decideA (fun _ _ => rfl) (fun _ _ _ _ _ => rfl) f (fun s => by
    split
    · exact heldView_ownerOf code t f s
    · rfl) s

theorem heldView_intakeUnknown (code : Byte) (f : ManageFrame) (s : State) :
    heldView (intakeUnknown code f s) = heldView s :=
  manageChecks_keeps heldView heldView_decideA (fun _ _ => rfl) (fun _ _ _ _ _ => rfl) f
    (fun s => heldView_reply f .unknownCode code [] s) s

theorem heldView_intakeBroadcastManage (code : ManageCode) {effect : ManageFrame → State → State} (f : ManageFrame)
    {s : State} (he : heldView (effect f s) = heldView s) :
    heldView (intakeBroadcastManage code effect f s) = heldView s := by
  unfold intakeBroadcastManage
  rw [heldView_decideA]
  split
  · rfl
  · exact he

theorem heldView_broadcastSegmentReset (s : State) : heldView (broadcastSegmentReset s) = heldView s :=
  (heldView_raise ..).trans (heldView_softReset s)

/-! ### Frames given as bytes -/

theorem heldView_intakeDirect (t : Arrival) (p : Downstream) (s : State) :
    heldView (intakeDirect t p s) = heldView s := by
  cases p with
  | request op f => exact heldView_intakeRequest op f s
  | abort f => exact heldView_intakeAbort f s
  | manage code f =>
    change heldView (intakeManageCode t code f s) = _
    unfold intakeManageCode
    split
    · exact heldView_intakeUnknown code f s
    · exact heldView_intakeManage _ t f s
  | short => exact heldView_decideA _

theorem heldView_intakeBroadcast (t : Arrival) (p : Downstream) (s : State) :
    heldView (intakeBroadcast t p s) = heldView s := by
  have hdiscard : heldView (decideA (discardFrame s)) = heldView s := heldView_decideA _
  unfold intakeBroadcast
  split
  · exact heldView_intakeBroadcastWrite _ s
  · exact hdiscard
  · exact hdiscard
  · split
    · exact heldView_intakeBroadcastManage _ _ rfl
    · exact heldView_intakeBroadcastManage _ _ (heldView_broadcastSegmentReset s)
    · exact hdiscard
  · exact hdiscard

theorem heldView_takeA (t : Arrival) (f : RawFrame) (s : State) : heldView (takeA t f s) = heldView s := by
  have hsort : ∀ bytes u, heldView (sortDownstream t bytes u) = heldView u := fun bytes u => by
    unfold sortDownstream
    split
    · exact heldView_relayDown ..
    · split
      · exact heldView_intakeDirect t _ u
      · split
        · exact (heldView_intakeBroadcast t _ _).trans (heldView_relayDown ..)
        · exact (heldView_decideA _).trans (heldView_relayDown ..)
  unfold takeA
  split
  · rfl
  · split
    · rfl
    · split
      · rfl
      · exact hsort ..

/-! ### Every command -/

/-- Every command but a boundary and those of a hard reset leaves the view. -/
theorem heldView_exec {i : Instr} {us : Nat} (s : State) (he : i.elapsed = some us) (hb : i.isBoundary = false) :
    ∃ u, exec i s = .next u ∧ heldView u = heldView s := by
  have hevent : ∀ us {k : State → State}, (∀ s, heldView (k s) = heldView s) → heldView (running us k s) = heldView s :=
    fun us _ hk => running_keeps heldView us (fun _ => rfl) hk s
  have hquiet : ∀ us {k : State → State},
      (∀ s, (k s).segment = s.segment ∧ (k s).rate = s.rate ∧ (k s).config = s.config) →
      heldView (running us k s) = heldView s := fun us _ hk =>
    hevent us fun s => heldView_congr (hk s).1 (hk s).2.1 (hk s).2.2
  have hdirect : ∀ t p {k : State → State}, (∀ s, heldView (k s) = heldView s) →
      heldView (takeDirect t p k s) = heldView s := fun t p _ hk =>
    takeDirect_keeps heldView t p (fun _ _ => rfl) (fun _ _ => rfl) (fun _ _ => heldView_relayDown _ _) hk s
  have hbroadcast : ∀ t p {k : State → State}, (∀ s, heldView (k s) = heldView s) →
      heldView (takeBroadcast t p k s) = heldView s := fun t p _ hk =>
    takeBroadcast_keeps heldView t p (fun _ _ => rfl) (fun _ _ => rfl) (fun _ _ => heldView_relayDown _ _) hk s
  have hm : ∀ code t f,
      heldView (takeDirect t (.manage (ManageCode.byte code) f) (intakeManage code (ownerOf code t) f) s) =
        heldView s := fun code t f => hdirect t _ (heldView_intakeManage code t f)
  cases i with
  | hardReset straps => cases he
  | trunkAUp dt => exact ⟨_, rfl, hquiet dt (by simp)⟩
  | trunkADown dt => exact ⟨_, rfl, hquiet dt (by simp)⟩
  | trunkBUp dt => exact ⟨_, rfl, hquiet dt (by simp)⟩
  | trunkBDown dt => exact ⟨_, rfl, hquiet dt (by simp)⟩
  | aFrameReceived t f => exact ⟨_, rfl, hevent _ (heldView_takeA t f)⟩
  | bFrameReceived dt f => exact ⟨_, rfl, hquiet dt (by simp)⟩
  | bTransmitEnd dt => exact ⟨_, rfl, hquiet dt (by simp)⟩
  | aTransmitEnd dt => exact ⟨_, rfl, hquiet dt (by simp)⟩
  | read t f => exact ⟨_, rfl, hdirect t _ (heldView_intakeRequest .read f)⟩
  | write t f => exact ⟨_, rfl, hdirect t _ (heldView_intakeRequest .write f)⟩
  | broadcastWrite t f => exact ⟨_, rfl, hbroadcast t _ (heldView_intakeBroadcastWrite f)⟩
  | abort t f => exact ⟨_, rfl, hdirect t _ (heldView_intakeAbort f)⟩
  | editOpen t f => exact ⟨_, rfl, hm .editOpen t f⟩
  | editClose t f => exact ⟨_, rfl, hm .editClose t f⟩
  | entryWrite t f => exact ⟨_, rfl, hm .entryWrite t f⟩
  | entryRead t f => exact ⟨_, rfl, hm .entryRead t f⟩
  | commit t f => exact ⟨_, rfl, hm .commit t f⟩
  | nodeRead t f => exact ⟨_, rfl, hm .nodeRead t f⟩
  | nodeEnable t f => exact ⟨_, rfl, hm .nodeEnable t f⟩
  | nodeDisable t f => exact ⟨_, rfl, hm .nodeDisable t f⟩
  | nodeRevive t f => exact ⟨_, rfl, hm .nodeRevive t f⟩
  | cellRead t f => exact ⟨_, rfl, hm .cellRead t f⟩
  | dropIsolate t f => exact ⟨_, rfl, hm .dropIsolate t f⟩
  | dropResume t f => exact ⟨_, rfl, hm .dropResume t f⟩
  | noticeAck t f => exact ⟨_, rfl, hm .noticeAck t f⟩
  | noticeMask t f => exact ⟨_, rfl, hm .noticeMask t f⟩
  | clockRead t f => exact ⟨_, rfl, hm .clockRead t f⟩
  | epochSet t scope f =>
    cases scope with
    | direct => exact ⟨_, rfl, hm .epochSet t f⟩
    | broadcast => exact ⟨_, rfl, hbroadcast t _ fun _ => heldView_intakeBroadcastManage .epochSet f rfl⟩
  | statusRead t f => exact ⟨_, rfl, hm .statusRead t f⟩
  | countersRead t f => exact ⟨_, rfl, hm .countersRead t f⟩
  | segmentReset t scope f =>
    cases scope with
    | direct => exact ⟨_, rfl, hm .segmentReset t f⟩
    | broadcast =>
      exact ⟨_, rfl, hbroadcast t _ fun _ =>
        heldView_intakeBroadcastManage .segmentReset f (heldView_broadcastSegmentReset _)⟩
  | unknownCode t code f => exact ⟨_, rfl, hdirect t _ (heldView_intakeUnknown code f)⟩
  | guardSilenceReached dt => exact ⟨_, rfl, hquiet dt (by simp)⟩
  | busyLimitInGuard dt => exact ⟨_, rfl, hquiet dt (by simp)⟩
  | requestFrameSent dt => exact ⟨_, rfl, hquiet dt (by simp)⟩
  | strayCharacter dt ch => exact ⟨_, rfl, hquiet dt (by simp)⟩
  | responseFirstCharacter dt ch => exact ⟨_, rfl, hquiet dt (by simp)⟩
  | responseCharacter dt ch => exact ⟨_, rfl, hquiet dt (by simp)⟩
  | responseDeadline dt => exact ⟨_, rfl, hquiet dt (by simp)⟩
  | responseTruncated dt => exact ⟨_, rfl, hquiet dt (by simp)⟩
  | discardSilenceReached dt => exact ⟨_, rfl, hquiet dt (by simp)⟩
  | discardBusyLimit dt => exact ⟨_, rfl, hquiet dt (by simp)⟩
  | jamCleared dt => exact ⟨_, rfl, hquiet dt (by simp)⟩
  | sendingTailEnd dt => exact ⟨_, rfl, hquiet dt (by simp)⟩
  | baseCycleBoundary dt => cases hb
  | freshnessExpiry dt cell => exact ⟨_, rfl, hquiet dt (by simp)⟩
  | probeTimerExpiry dt node => exact ⟨_, rfl, hquiet dt (by simp)⟩
  | sessionTimerExpiry dt => exact ⟨_, rfl, hevent dt heldView_sessionExpiry⟩
  | noticeResendExpiry dt => exact ⟨_, rfl, hquiet dt (by simp)⟩
  | hardResetBegin source => cases he

/-- At a boundary the straps stay (R24). -/
theorem exec_boundary_straps (dt : Nat) (s : State) :
    ∃ u, exec (.baseCycleBoundary dt) s = .next u ∧ u.segment = s.segment ∧ u.rate = s.rate :=
  ⟨_, rfl, running_keeps State.segment dt (fun _ => rfl) (by simp) s,
    running_keeps State.rate dt (fun _ => rfl) (by simp) s⟩

/-- Settles O4: every command but a boundary and those of a hard reset leaves the straps, the ACTIVE bank and the
generation; and the boundary and the beginning of a reset leave the straps. -/
theorem strapsAndActiveTablesAreHeld : Obligations.StrapsAndActiveTablesAreHeld := by
  refine ⟨fun i s hi => ?_, fun i us s he hb => ?_⟩
  · cases he : i.elapsed with
    | none =>
      cases i with
      | hardReset straps => exact absurd rfl (hi straps)
      | hardResetBegin source => exact ⟨_, rfl, rfl, rfl⟩
      | _ => cases he
    | some us =>
      cases hb : i.isBoundary with
      | false =>
        obtain ⟨u, hu, hv⟩ := heldView_exec s he hb
        obtain ⟨hsegment, hrate, -⟩ := heldView_eq_iff.1 hv
        exact ⟨u, hu, hsegment, hrate⟩
      | true =>
        cases i with
        | baseCycleBoundary dt => exact exec_boundary_straps dt s
        | _ => cases hb
  · obtain ⟨u, hu, hv⟩ := heldView_exec s he hb
    obtain ⟨-, -, hactive, hgeneration⟩ := heldView_eq_iff.1 hv
    exact ⟨u, hu, hactive, hgeneration⟩

end Sys2Proof.Machine
end

section
/-! PROOF. DROP_ISOLATE and DROP_RESUME: the returned grant, the flush by port, and what each port state makes of the two
requests (R10, R13, R19, R42 to R46, R58). -/

namespace Sys2Proof.Machine

/-! ### The returned grant (R10, R13) -/

theorem returnGrant_none {s : State} (h : s.engine.txn = none) : returnGrant s = s := by
  rw [returnGrant, h]

theorem returnGrant_host {x : Txn} {i : SlotIx} {s : State} (ht : s.engine.txn = some x) (hc : x.claimant = .host i) :
    returnGrant s = returnHost i s := by
  unfold returnGrant
  rw [ht]
  dsimp only
  rw [hc]

theorem returnGrant_poll {x : Txn} {i : CellIx} {s : State} (ht : s.engine.txn = some x) (hc : x.claimant = .poll i) :
    returnGrant s = { s with calendar := { s.calendar with dueList := i :: s.calendar.dueList } } := by
  unfold returnGrant
  rw [ht]
  dsimp only
  rw [hc]

/-- A granted slot goes back to the head of its class queue (R10). -/
theorem returnHost_queued {i : SlotIx} {slot : Slot} {s : State} (hs : s.pool.slots[i] = some slot)
    (ha : slot.state ≠ .abortPending) :
    returnHost i s =
      { s with
        pool :=
          { s.pool with
            slots := s.pool.slots.set i.val (some { slot with state := .queued }) i.isLt
            urgent := if slot.cls = .urgent then i :: s.pool.urgent else s.pool.urgent
            normal := if slot.cls = .normal then i :: s.pool.normal else s.pool.normal
            bulk := if slot.cls = .bulk then i :: s.pool.bulk else s.pool.bulk } } := by
  unfold returnHost
  rw [hs]
  dsimp only
  rw [if_neg ha]
  cases slot.cls <;> rfl

/-- The slot of an aborted transaction ends (R13). -/
theorem returnHost_aborted {i : SlotIx} {slot : Slot} {s : State} (hs : s.pool.slots[i] = some slot)
    (ha : slot.state = .abortPending) :
    returnHost i s =
      completeSlot i (if slot.op = .write ∧ slot.sentOnce = true then .abortedLate else .aborted) 0#8 [] s := by
  unfold returnHost
  rw [hs]
  dsimp only
  rw [if_pos ha]
  rfl

/-! ### The flush by port (R19, R58) -/

/-- Emptying the probe list changes the Node Monitor alone. -/
theorem emptyProbeList_eq (s : State) : emptyProbeList s = { s with monitor := (emptyProbeList s).monitor } := by
  have h : ∀ (l : List NodeIx) (u : State), l.foldl (fun s n => dropProbe n s) u =
      { u with monitor := (l.foldl (fun s n => dropProbe n s) u).monitor } := by
    intro l
    induction l with
    | nil => exact fun _ => rfl
    | cons n l ih =>
      intro u
      rw [List.foldl_cons, ih (dropProbe n u), dropProbe_eq]
      rfl
  exact h s.monitor.probeList { s with monitor := { s.monitor with probeList := [] } }

theorem flushPort_eq (status : Status) (s : State) :
    flushPort status s =
      { flush (fun _ => true) status s with
        calendar := { (flush (fun _ => true) status s).calendar with dueList := [] }
        monitor := (flushPort status s).monitor } := by
  rw [flushPort]
  exact emptyProbeList_eq _

/-! ### The answers of the two requests (R42, R43, R46) -/

theorem answerPort_of_port {p : PortState} {s : State} (f : ManageFrame) (hp : s.engine.port = p) :
    answerPort f s = answer f.tag f.node .ok 0#8 [.raw [p.code]] s := by
  rw [← hp]
  rfl

/-- Isolation that answers a DROP_ISOLATE answers with the port state ISOLATED (R42, R44). -/
theorem isolate_answerPort (f : ManageFrame) (s : State) :
    isolate (answerPort f) s =
      answer f.tag f.node .ok 0#8 [.raw [6#8]] (flushPort .isolated (portIsolated s)) := by
  rw [isolate_eq_flushPort]
  exact answerPort_of_port (p := .isolated) f (by simp [portIsolated])

/-- An exchange is under way on the line: the port states in which an isolate waits (R43). -/
def OnLine (s : State) : Prop :=
  s.engine.port = .sending ∨ s.engine.port = .awaiting ∨ s.engine.port = .receiving

theorem ownDropIsolate_onLine {s : State} (h : OnLine s) (f : ManageFrame) :
    ownDropIsolate f s = if s.engine.pendingIsolate.isSome then answerPort f s else holdIsolate f s := by
  unfold ownDropIsolate
  rcases h with hp | hp | hp <;> rw [hp]

theorem ownDropResume_onLine {s : State} (h : OnLine s) (f : ManageFrame) :
    ownDropResume f s = answerPort f (cancelPending s) := by
  unfold ownDropResume
  rcases h with hp | hp | hp <;> rw [hp]

theorem exec_dropIsolate {t : Arrival} {f : ManageFrame} {s : State} (hs : Serving s)
    (h : ManagePasses .dropIsolate f s) :
    exec (.dropIsolate t f) s = .next (decideA (ownDropIsolate f (s.atFrame t))) :=
  congrArg Host.Outcome.next (takeManage_of_passes t ownDropIsolate hs h)

theorem exec_dropResume {t : Arrival} {f : ManageFrame} {s : State} (hs : Serving s)
    (h : ManagePasses .dropResume f s) :
    exec (.dropResume t f) s = .next (decideA (ownDropResume f (s.atFrame t))) :=
  congrArg Host.Outcome.next (takeManage_of_passes t ownDropResume hs h)

/-- Settles O33. -/
theorem dropIsolateTakesEffectOrPends : Obligations.DropIsolateTakesEffectOrPends := by
  refine ⟨⟨fun s => returnGrant_none, fun x i slot s ht hc hs => ⟨fun ha => ?_, fun ha => ?_⟩,
    fun x i s => returnGrant_poll, fun x n s ht hc => ?_⟩, fun status s => ?_, fun t f s hs hp => ?_⟩
  · rw [returnGrant_host ht hc, returnHost_queued hs ha]
  · rw [returnGrant_host ht hc, returnHost_aborted hs ha]
  · rw [returnGrant_probe ht hc]
    rfl
  · exact ⟨_, rfl, flushPort_eq status s, (flushPort_clear status s).2.2.2.2, fun n => flushPort_health status n s⟩
  · rw [exec_dropIsolate hs hp]
    refine ⟨?_, fun hline hnone => ?_, fun h => ?_⟩
    · intro v hrest hguard h
      have hisolate : ownDropIsolate f (s.atFrame t) = isolate (answerPort f) v := by
        rcases h with hport | hport | hport
        · rw [hrest (.inl hport), ownDropIsolate, show (s.atFrame t).engine.port = .idle from hport]
        · rw [hrest (.inr hport), ownDropIsolate, show (s.atFrame t).engine.port = .jammed from hport]
        · rw [hguard hport, ownDropIsolate, show (s.atFrame t).engine.port = .guard from hport]
      rw [hisolate, isolate_answerPort]
      rfl
    · rw [ownDropIsolate_onLine (s := s.atFrame t) hline, show (s.atFrame t).engine.pendingIsolate = none from hnone]
      rfl
    · have hanswer : ownDropIsolate f (s.atFrame t) = answerPort f (s.atFrame t) := by
        rcases h with hport | ⟨hline, hsome⟩
        · rw [ownDropIsolate, show (s.atFrame t).engine.port = .isolated from hport]
        · rw [ownDropIsolate_onLine (s := s.atFrame t) hline]
          exact if_pos hsome
      rw [hanswer]
      rfl

/-- Settles O34. -/
theorem dropResumeLeavesIsolationOrCancels : Obligations.DropResumeLeavesIsolationOrCancels := by
  refine fun t f s hs hp => ⟨fun hport => ?_, fun tag hline hsome => ?_, fun h => ?_⟩
  · rw [exec_dropResume hs hp, ownDropResume, show (s.atFrame t).engine.port = .isolated from hport]
    rfl
  · rw [exec_dropResume hs hp, ownDropResume_onLine (s := s.atFrame t) hline, cancelPending,
      show (s.atFrame t).engine.pendingIsolate = some tag from hsome]
    rfl
  · have hanswer : ownDropResume f (s.atFrame t) = answerPort f (s.atFrame t) := by
      rcases h with hport | hport | hport | ⟨hline, hnone⟩
      · rw [ownDropResume, show (s.atFrame t).engine.port = .idle from hport]
      · rw [ownDropResume, show (s.atFrame t).engine.port = .guard from hport]
      · rw [ownDropResume, show (s.atFrame t).engine.port = .jammed from hport]
      · rw [ownDropResume_onLine (s := s.atFrame t) hline, cancelPending,
          show (s.atFrame t).engine.pendingIsolate = none from hnone]
    rw [exec_dropResume hs hp, hanswer]
    rfl

end Sys2Proof.Machine
end

section
/-! PROOF. Entry into GUARD, the silence that begins an attempt, and the request frame on the line (R24, R27 to R29, R141). -/

namespace Sys2Proof.Machine

/-! ### Events out of reset, and counts -/

/-- An event of a controller that is not held in reset takes effect at its instant. -/
theorem running_of_not_held {s : State} (h : s.held = none) (us : Nat) (k : State → State) :
    running us k s = k (advance us s) := by
  rw [running, h]
  rfl

theorem addCount_zero (c : Counter) (s : State) : addCount c 0 s = s := by
  simp [addCount]

/-- A count of one where a condition holds. -/
theorem addCount_ite {p : Prop} [Decidable p] (c : Counter) (s : State) :
    addCount c (if p then 1 else 0) s = if p then bump c s else s := by
  split
  · rfl
  · exact addCount_zero c s

/-! ### The silence in GUARD (R25, R28) -/

theorem silence_of_not_sending {s : State} (hp : s.engine.port ≠ .sending) :
    silence s = microsBetween s.engine.lastActivity s.time.clock := by
  rw [silence, lastActivity_of_not_sending s hp]

theorem enterGuard_eq (x : Txn) (s : State) :
    enterGuard x s =
      if ctMicros s.rate s.config.active.segment.guardGap ≤ (s.time.clock - s.engine.lastActivity).toNat then
        beginAttempt x (guardEntered x s)
      else guardEntered x s := by
  have hsilence : silence (guardEntered x s) = (s.time.clock - s.engine.lastActivity).toNat :=
    silence_of_not_sending (by simp [guardEntered])
  simp only [enterGuard, guardSilent, decide_eq_true_eq, hsilence]
  rfl

theorem guardSilence_of_silent {x : Txn} {s : State} (hp : s.engine.port = .guard) (hx : s.engine.txn = some x)
    (hs : ctMicros s.rate s.engine.guardGap ≤ microsBetween s.engine.lastActivity s.time.clock)
    (hg : microsBetween s.engine.guardEntry s.time.clock + ctMicros s.rate s.engine.guardGap ≤
      microsBetween s.engine.lastActivity s.time.clock + s.engine.busyLimit * 1000) :
    guardSilence s = beginAttempt x s := by
  have hsilence := silence_of_not_sending (s := s) (by simp [hp])
  unfold guardSilence
  rw [hp, hx]
  refine if_pos ?_
  rw [guardSilent, gapFirst, hsilence, decide_eq_true hs, decide_eq_true hg]
  rfl

theorem guardSilence_of_not_silent {s : State} (hp : s.engine.port = .guard)
    (h : microsBetween s.engine.lastActivity s.time.clock < ctMicros s.rate s.engine.guardGap ∨
      microsBetween s.engine.lastActivity s.time.clock + s.engine.busyLimit * 1000 <
        microsBetween s.engine.guardEntry s.time.clock + ctMicros s.rate s.engine.guardGap) : guardSilence s = s := by
  have hsilence := silence_of_not_sending (s := s) (by simp [hp])
  unfold guardSilence
  split
  · refine if_neg ?_
    rw [Bool.and_eq_true, guardSilent, gapFirst, hsilence, decide_eq_true_eq, decide_eq_true_eq]
    omega
  · rfl

/-! ### The attempt begins (R26, R29) -/

theorem beginAttempt_host {x : Txn} {i : SlotIx} {slot : Slot} {s : State} (hx : x.claimant = .host i)
    (hs : s.pool.slots[i] = some slot) :
    beginAttempt x s =
      addCount .dropTransactions (if slot.attempts = 0 then 1 else 0)
        { s with
          pool :=
            { s.pool with
              slots := s.pool.slots.set i.val (some { slot with attempts := slot.attempts + 1 }) i.isLt }
          engine :=
            { s.engine with
              port := .sending, txFrame := requestFrame x, dropDE := true, txStart := some s.time.clock } } := by
  have hattempts : attemptsOf s x = slot.attempts := by
    simp only [attemptsOf, hx, hs, Option.map_some, Option.getD_some]
  have hcount : countAttempt x s = putSlot i (some { slot with attempts := slot.attempts + 1 }) s := by
    rw [countAttempt, hx]
    exact modifySlot_of_some _ hs
  rw [addCount_ite]
  unfold beginAttempt
  dsimp only
  rw [hattempts, hcount]
  split <;> rfl

theorem beginAttempt_own {x : Txn} {s : State} (hx : ∀ i, x.claimant ≠ .host i) :
    beginAttempt x s =
      addCount .dropTransactions (if x.ownAttempts = 0 then 1 else 0)
        { s with
          engine :=
            { s.engine with
              port := .sending, txn := some { x with ownAttempts := x.ownAttempts + 1 }, txFrame := requestFrame x
              dropDE := true, txStart := some s.time.clock } } := by
  have hattempts : attemptsOf s x = x.ownAttempts := by
    unfold attemptsOf
    split
    · next i hi => exact absurd hi (hx i)
    · rfl
    · rfl
  have hcount : countAttempt x s =
      { s with engine := { s.engine with txn := some { x with ownAttempts := x.ownAttempts + 1 } } } := by
    unfold countAttempt
    split
    · next i hi => exact absurd hi (hx i)
    · rfl
    · rfl
  rw [addCount_ite]
  unfold beginAttempt
  dsimp only
  rw [hattempts, hcount]
  split <;> rfl

/-! ### The request frame and its bits (R24, R29, R141) -/

theorem requestFrame_eq (x : Txn) :
    requestFrame x =
      withCheck
        ([0xC5#8, BitVec.ofNat 8 x.node.val, x.op.code, BitVec.ofNat 8 (x.space.val * 64 + (x.count - 1))] ++
          be16 x.address ++ if x.op = .write then bytesOf x.payload else []) := by
  unfold requestFrame
  cases x.op <;> rfl

/-- The characters of a frame follow one another without gaps (R29). -/
theorem frameBits_getElem? {frame : List Byte} {n k : Nat} {b : Byte} (hb : frame[n]? = some b) (hk : k < 10) :
    (frameBits frame)[10 * n + k]? = (charBits b)[k]? := by
  induction frame generalizing n with
  | nil => cases hb
  | cons c frame ih =>
    have hcons : frameBits (c :: frame) = charBits c ++ frameBits frame := rfl
    cases n with
    | zero =>
      obtain rfl : c = b := Option.some.inj hb
      rw [hcons, Nat.mul_zero, Nat.zero_add, List.getElem?_append_left (by simpa using hk)]
    | succ n =>
      rw [hcons, List.getElem?_append_right (by simp; omega), charBits_length,
        show 10 * (n + 1) + k - 10 = 10 * n + k by omega]
      exact ih hb

/-- The level that the controller drives is the bit whose time is running (R24, R29). -/
theorem dropTxd_eq {n k : Nat} {b : Byte} {start : Stamp} {s : State} (hd : s.engine.dropDE = true)
    (hs : s.engine.txStart = some start) (hb : s.engine.txFrame[n]? = some b) (hk : k < 10)
    (hlow : (10 * n + k) * 1000000 ≤ (s.time.clock - start).toNat * Config.bitRate s.rate)
    (hhigh : (s.time.clock - start).toNat * Config.bitRate s.rate < (10 * n + k + 1) * 1000000) :
    dropTxd s = (charBits b)[k]? := by
  have hbit : (s.time.clock - start).toNat * Config.bitRate s.rate / 1000000 = 10 * n + k :=
    Nat.div_eq_of_lt_le hlow hhigh
  have hin : k < (charBits b).length := by simpa using hk
  have hget := frameBits_getElem? hb hk
  rw [List.getElem?_eq_getElem hin] at hget ⊢
  rw [dropTxd, if_pos hd, sendingFor, hs, Option.map_some, Option.getD_some, microsBetween, hbit,
    List.getD_eq_getElem?_getD, hget]
  rfl

/-- Settles O40. -/
theorem guardSilenceBeginsAttempt : Obligations.GuardSilenceBeginsAttempt := by
  have hrun : ∀ us s, s.held = none → exec (.guardSilenceReached us) s = .next (guardSilence (advance us s)) :=
    fun us s hh => congrArg Host.Outcome.next (running_of_not_held hh us guardSilence)
  refine ⟨fun x s => ⟨_, rfl, enterGuard_eq x s⟩, ?_, ?_, ?_, requestFrame_eq, fun b => rfl,
    fun n k b start s => dropTxd_eq, fun s hd => ?_⟩
  · rintro us silent since x i slot s hh hp hx hc hs rfl rfl hgap hlimit
    rw [hrun us s hh, guardSilence_of_silent (s := advance us s) hp hx hgap hlimit,
      beginAttempt_host (s := advance us s) hc hs]
    rfl
  · rintro us silent since x s hh hp hx hc rfl rfl hgap hlimit
    rw [hrun us s hh, guardSilence_of_silent (s := advance us s) hp hx hgap hlimit, beginAttempt_own hc]
    rfl
  · rintro us silent since s hh hp rfl rfl h
    rw [hrun us s hh, guardSilence_of_not_silent (s := advance us s) hp h]
  · rw [dropTxd, if_neg (by simp [hd])]

end Sys2Proof.Machine
end

section
/-! PROOF. Characters taken from the line by the state of the port, and the checks of a response (R24, R25, R27, R28, R31 to
R34, R41, R45). -/

namespace Sys2Proof.Machine

/-! ### One character (R24, R25) -/

theorem data_getLsbD (ch : LineChar) {k : Nat} (hk : k < 8) :
    ch.data.getLsbD k = ch.levels.getLsbD (k + 1) := by
  rw [LineChar.data, BitVec.getLsbD_extractLsb', Nat.add_comm]
  simp [hk]

theorem framingError_iff (ch : LineChar) : ch.framingError = true ↔ ch.levels.getLsbD 9 = false := by
  simp [LineChar.framingError]

/-! ### By the state of the port (R27, R28, R31, R41, R45) -/

/-- A character in a state without a response: a stray one where the line is watched (R27, R28, R41). -/
theorem characterEnds_stray (ch : LineChar) {s : State}
    (hp : s.engine.port = .idle ∨ s.engine.port = .guard ∨ s.engine.port = .jammed) :
    characterEnds ch s = takeStray s := by
  rcases hp with hp | hp | hp <;> simp [characterEnds, takeCharacter, hp]

/-- While the controller sends, and in isolation, a character is nothing (R29, R45). -/
theorem characterEnds_ignored (ch : LineChar) {s : State} (hp : s.engine.port = .sending ∨ s.engine.port = .isolated) :
    characterEnds ch s = s := by
  rcases hp with hp | hp <;> simp [characterEnds, takeCharacter, hp]

theorem characterEnds_first (ch : LineChar) {s : State} (hp : s.engine.port = .awaiting) :
    characterEnds ch s = takeFirst ch s := by
  simp [characterEnds, takeCharacter, hp]

theorem characterEnds_next (ch : LineChar) {x : Txn} {s : State} (hp : s.engine.port = .receiving)
    (hx : s.engine.txn = some x) : characterEnds ch s = settle (takeNext x ch s) := by
  simp [characterEnds, takeCharacter, hp, hx]

/-- The first character of a response is stored, and one with a framing error stops collection (R31, R33). -/
theorem takeFirst_eq (ch : LineChar) (s : State) :
    takeFirst ch s =
      { s with
        engine :=
          { s.engine with
            port := .receiving, deadline := none, firstChar := some s.time.clock
            rxBuffer := s.engine.rxBuffer ++ [ch.data], lastActivity := s.time.clock
            discard := if ch.framingError then some .framing else s.engine.discard
            discardStart := if ch.framingError then some s.time.clock else s.engine.discardStart } } := by
  unfold takeFirst
  dsimp only
  cases ch.framingError <;> rfl

/-! ### A further character (R32, R33) -/

/-- Once collection has stopped, a character is line activity alone (R33). -/
theorem takeNext_discarding (x : Txn) (ch : LineChar) {s : State} (h : s.engine.discard.isSome = true) :
    takeNext x ch s = touchLine s := if_pos h

/-- While the response is collected, a character is stored and decides by the header and the length (R32, R33). -/
theorem takeNext_collecting (x : Txn) (ch : LineChar) {s : State} (h : s.engine.discard = none) :
    takeNext x ch s =
      if ch.framingError then stopCollecting .framing (storeChar ch s)
      else if (storeChar ch s).engine.rxBuffer.length < 5 then storeChar ch s
      else if 72 < expectedLength (storeChar ch s).engine.rxBuffer then stopCollecting .badLength (storeChar ch s)
      else if (storeChar ch s).engine.rxBuffer.length < expectedLength (storeChar ch s).engine.rxBuffer then storeChar ch s
      else endResponse x (checkResponse x (storeChar ch s).engine.rxBuffer) (storeChar ch s) := by
  unfold takeNext
  rw [h]
  rfl

/-! ### The checks of R34 -/

/-- The covered bytes after the header of five. -/
theorem coveredBytes_drop (a b c d e : Byte) (rest : List Byte) :
    (coveredBytes (a :: b :: c :: d :: e :: rest)).drop 5 = rest.take (rest.length - 2) := by
  rw [coveredBytes, List.drop_take]
  exact congrArg (fun n => rest.take n) (by simp only [List.length_cons]; omega)

theorem checkResponse_cons (x : Txn) (start node echo status count : Byte) (rest : List Byte) :
    checkResponse x (start :: node :: echo :: status :: count :: rest) =
      if start ≠ 0xC6#8 then .corrupt .badCheck
      else if node ≠ BitVec.ofNat 8 x.node.val then .corrupt .wrongNode
      else if echo ≠ (if x.op = .read then 0x81#8 else 0x82#8) then .corrupt .wrongOp
      else if x.op = .read ∧ status = 0#8 ∧ count.toNat ≠ x.count then .corrupt .badLength
      else if checkHolds (start :: node :: echo :: status :: count :: rest) = false then .corrupt .badCheck
      else if status = 0#8 then .ok (wordsOf (rest.take (rest.length - 2)))
      else .exception status := by
  have hecho : x.op.echo = if x.op = .read then 0x81#8 else 0x82#8 := by cases x.op <;> rfl
  rw [checkResponse, coveredBytes_drop, hecho]
  rfl

/-- Settles O42. -/
theorem charactersAreTakenAndResponsesChecked : Obligations.CharactersAreTakenAndResponsesChecked := by
  refine ⟨⟨fun ch => ⟨fun k => data_getLsbD ch, framingError_iff ch⟩, fun _ => rfl⟩,
    ⟨fun us ch s hh hp => ?_, fun us ch s hh hp => ?_, fun us ch s hh hp => ?_, ?_, fun us ch x s hh hp hx hd => ?_⟩,
    ?_, fun _ _ _ => rfl, fun _ _ _ => rfl, fun _ _ _ => rfl⟩
  · change Host.Outcome.next (running us (characterEnds ch) s) = _
    rw [running_of_not_held hh, characterEnds_stray ch (s := advance us s) hp]
    rfl
  · change Host.Outcome.next (running us (characterEnds ch) s) = _
    rw [running_of_not_held hh, characterEnds_ignored ch (s := advance us s) hp]
  · change Host.Outcome.next (running us (characterEnds ch) s) = _
    rw [running_of_not_held hh, characterEnds_first ch (s := advance us s) hp, takeFirst_eq]
    rfl
  · intro us ch x s v hh hp hx hd hv
    have hstored : storeChar ch (advance us s) = v := hv.symm
    have hport : v.engine.port = .receiving := by
      rw [hv]
      exact hp
    have hrun : exec (.responseCharacter us ch) s = .next (settle (takeNext x ch (advance us s))) := by
      change Host.Outcome.next (running us (characterEnds ch) s) = _
      rw [running_of_not_held hh, characterEnds_next ch (s := advance us s) hp hx]
    have hstopped : ∀ d, settle (stopCollecting d v) = decideA (stopCollecting d v) := fun d =>
      settle_of_not_idle (by simp [stopCollecting, hport])
    have hwaits : settle v = decideA v := settle_of_not_idle (by simp [hport])
    rw [hrun, takeNext_collecting x ch (s := advance us s) hd, hstored]
    refine ⟨fun hf => ?_, fun hf h5 => ?_, fun hf h5 h72 => ?_, fun hf h5 h72 hlen => ?_, fun hf h5 h72 hlen => ?_⟩
    · rw [if_pos hf, hstopped]
      rfl
    · rw [if_neg (by simp [hf]), if_pos h5, hwaits]
    · rw [if_neg (by simp [hf]), if_neg (Nat.not_lt.2 h5), if_pos h72, hstopped]
      rfl
    · rw [if_neg (by simp [hf]), if_neg (Nat.not_lt.2 h5), if_neg (Nat.not_lt.2 h72), if_pos hlen, hwaits]
    · rw [if_neg (by simp [hf]), if_neg (Nat.not_lt.2 h5), if_neg (Nat.not_lt.2 h72), if_neg (Nat.not_lt.2 hlen)]
  · change Host.Outcome.next (running us (characterEnds ch) s) = _
    rw [running_of_not_held hh, characterEnds_next ch (s := advance us s) hp hx,
      takeNext_discarding x ch (s := advance us s) hd, settle_of_not_idle (by simp [touchLine, advance, hp])]
    rfl
  · rintro x start node echo status count rest buffer rfl
    exact checkResponse_cons ..

end Sys2Proof.Machine
end

section
/-! PROOF. The ends of an attempt without a response, the retry decision, and the final outcome handed on (R12, R13, R31 to
R37, R43, R44, R59). -/

namespace Sys2Proof.Machine

/-! ### The retry decision (R35) -/

theorem decideRetry_again {x : Txn} {s : State} (ha : attemptsOf s x ≤ retryLimitOf s x)
    (hp : abortIsPending s x = false) (hi : s.engine.pendingIsolate = none) (result : DropResult) :
    decideRetry x result s = enterGuard x (bump .retries s) := if_pos ⟨ha, hp, hi⟩

theorem decideRetry_final {x : Txn} {s : State}
    (h : retryLimitOf s x < attemptsOf s x ∨ abortIsPending s x = true ∨ s.engine.pendingIsolate.isSome = true)
    (result : DropResult) : decideRetry x result s = deliver x result s := by
  refine if_neg ?_
  rintro ⟨ha, hp, hi⟩
  rcases h with h | h | h
  · omega
  · rw [hp] at h
    cases h
  · rw [hi] at h
    cases h

theorem retryLimitOf_probe {x : Txn} {n : NodeIx} (h : x.claimant = .probe n) (s : State) : retryLimitOf s x = 0 := by
  unfold retryLimitOf
  rw [h]

theorem retryLimitOf_node {x : Txn} {n : NodeIx} (hx : ∀ m, x.claimant ≠ .probe m) (hn : nodeIx? x.node = some n)
    (s : State) :
    retryLimitOf s x = if (s.config.active.node[n]).present then (s.config.active.node[n]).retryLimit else 0 := by
  unfold retryLimitOf
  rw [hn]
  cases hc : x.claimant with
  | host i => rfl
  | poll i => rfl
  | probe m => exact absurd hc (hx m)

/-! ### The four ends of an attempt (R31 to R33) -/

theorem deadlineReached_of_reached {x : Txn} {deadline : Stamp} {s : State} (hp : s.engine.port = .awaiting)
    (hx : s.engine.txn = some x) (hd : s.engine.deadline = some deadline) (h : deadline ≤ s.time.clock) :
    deadlineReached s = settle (decideRetry x .timeout (bump .timeouts s)) := by
  unfold deadlineReached
  rw [hp, hx, hd]
  exact if_pos (decide_eq_true h)

theorem deadlineReached_of_early {deadline : Stamp} {s : State} (hd : s.engine.deadline = some deadline)
    (h : s.time.clock < deadline) : deadlineReached s = s := by
  unfold deadlineReached
  split
  · rw [hd]
    exact if_neg (by simpa [reached] using h)
  · rfl

theorem truncated_of_silent {x : Txn} {s : State} (hp : s.engine.port = .receiving) (hx : s.engine.txn = some x)
    (hd : s.engine.discard = none)
    (h : ctMicros s.rate 4 ≤ microsBetween s.engine.lastActivity s.time.clock) :
    truncated s = settle (endCorrupt x .truncated s) := by
  unfold truncated
  rw [hp, hx, hd]
  refine if_pos (decide_eq_true ?_)
  rwa [silence_of_not_sending (by simp [hp])]

theorem endDiscard_of_due {due : State → Bool} {x : Txn} {d : DiscardDetail} {s : State}
    (hp : s.engine.port = .receiving) (hx : s.engine.txn = some x) (hd : s.engine.discard = some d)
    (h : due s = true) : endDiscard due s = settle (endCorrupt x d.corrupt s) := by
  unfold endDiscard
  rw [hp, hx, hd]
  exact if_pos h

theorem guardSilent_of_receiving {s : State} (hp : s.engine.port = .receiving)
    (h : ctMicros s.rate s.engine.guardGap ≤ microsBetween s.engine.lastActivity s.time.clock) :
    guardSilent s = true := by
  refine decide_eq_true ?_
  rwa [silence_of_not_sending (by simp [hp])]

theorem discardOverdue_of_elapsed {since : Stamp} {s : State} (hs : s.engine.discardStart = some since)
    (h : s.engine.busyLimit * 1000 ≤ microsBetween since s.time.clock) : discardOverdue s = true := by
  rw [discardOverdue, hs]
  exact decide_eq_true h

/-- Settles O43. -/
theorem attemptsEndInRetryOrFinalOutcome : Obligations.AttemptsEndInRetryOrFinalOutcome := by
  refine ⟨fun x result s => ⟨fun ha hp hi => decideRetry_again ha hp hi result, fun h => decideRetry_final h result⟩,
    fun x s => ⟨fun n h => retryLimitOf_probe h s, fun n hx hn => retryLimitOf_node hx hn s⟩,
    fun us x deadline s hh hp hx hd h => ?_, fun us x s hh hp hx hd h => ?_,
    fun us x d s hh hp hx hd => ⟨fun h => ?_, fun since hs h => ?_⟩, fun us deadline s hh hp hd h => ?_⟩
  · change Host.Outcome.next (running us deadlineReached s) = _
    rw [running_of_not_held hh, deadlineReached_of_reached (s := advance us s) hp hx hd h]
    rfl
  · change Host.Outcome.next (running us truncated s) = _
    rw [running_of_not_held hh, truncated_of_silent (s := advance us s) hp hx hd h]
    rfl
  · change Host.Outcome.next (running us (endDiscard guardSilent) s) = _
    rw [running_of_not_held hh,
      endDiscard_of_due (s := advance us s) hp hx hd (guardSilent_of_receiving (s := advance us s) hp h)]
    rfl
  · change Host.Outcome.next (running us (endDiscard discardOverdue) s) = _
    rw [running_of_not_held hh,
      endDiscard_of_due (s := advance us s) hp hx hd (discardOverdue_of_elapsed (s := advance us s) hs h)]
    rfl
  · change Host.Outcome.next (running us deadlineReached s) = _
    rw [running_of_not_held hh, deadlineReached_of_early (s := advance us s) hd h]

/-! ### The claimant's owner (R12, R13, R36, R59) -/

theorem deliverToOwner_host {x : Txn} {i : SlotIx} (h : x.claimant = .host i) (result : DropResult) (s : State) :
    deliverToOwner x result s = finishHost i result s := by
  unfold deliverToOwner
  rw [h]

theorem deliverToOwner_poll {x : Txn} {i : CellIx} (h : x.claimant = .poll i) (result : DropResult) (s : State) :
    deliverToOwner x result s =
      pollOutcome { node := x.node, space := x.space, address := x.address, count := x.count } result s := by
  unfold deliverToOwner
  rw [h]

theorem deliverToOwner_probe {x : Txn} {n : NodeIx} (h : x.claimant = .probe n) (result : DropResult) (s : State) :
    deliverToOwner x result s = probeOutcome n result (latency s) s := by
  unfold deliverToOwner
  rw [h]

/-- A granted request that no ABORT has reached ends with the drop result (R12). -/
theorem finishHost_active {i : SlotIx} {slot : Slot} {s : State} (hs : s.pool.slots[i] = some slot)
    (ha : slot.state ≠ .abortPending) (result : DropResult) :
    finishHost i result s =
      match result with
      | .ok data => completeSlot i .ok 0#8 (if slot.op = .read then data else []) s
      | .exception code => completeSlot i .nodeException code [] s
      | .timeout => completeSlot i .timeout 0#8 [] s
      | .corrupt d => completeSlot i .corrupt d.code [] s := by
  unfold finishHost
  rw [hs]
  dsimp only
  rw [if_neg ha]
  cases result <;> cases slot.op <;> rfl

/-- A granted request that an ABORT has reached ends ABORTED, with the drop result in the detail (R13). -/
theorem finishHost_aborted {i : SlotIx} {slot : Slot} {s : State} (hs : s.pool.slots[i] = some slot)
    (ha : slot.state = .abortPending) (result : DropResult) :
    finishHost i result s =
      completeSlot i (if slot.op = .write ∧ slot.sentOnce = true then .abortedLate else .aborted)
        (match result with
          | .ok _ => 1#8
          | .exception _ => 2#8
          | .timeout => 3#8
          | .corrupt _ => 4#8)
        [] s := by
  unfold finishHost
  rw [hs]
  dsimp only
  rw [if_pos ha]
  cases result <;> rfl

/-- The timer is armed by the clock and the entry, which an outcome leaves (R56). -/
theorem armProbe_eq {n : NodeIx} {s v : State} (ht : v.time = s.time) (hc : v.config = s.config) :
    armProbe n v =
      modifyHealth n
        (fun h => { h with probeDue := some (s.time.clock + ms ((s.config.active.node[n]).probeUnits * 100)) }) v := by
  rw [armProbe, ht, hc]

/-- A probe's outcome is applied with the claim cleared; a node that was OFFLINE and failed again has its timer armed
(R59). -/
theorem probeOutcome_rearmed {n : NodeIx} {result : DropResult} {s : State}
    (ho : (s.monitor.health[n]).state = .offline) (hf : result = .timeout ∨ ∃ d, result = .corrupt d) (lat : Word32) :
    probeOutcome n result lat s =
      armProbe n (applyOutcome n result lat (modifyHealth n (fun h => { h with claim := .none }) s)) := by
  rw [probeOutcome_failure hf, if_pos ho, applyOutcome_failure hf]

/-- An answer, or a failure of a node that was not OFFLINE, arms no timer (R59). -/
theorem probeOutcome_applied {n : NodeIx} {result : DropResult} {s : State}
    (h : (s.monitor.health[n]).state ≠ .offline ∨ (∃ data, result = .ok data) ∨ ∃ code, result = .exception code)
    (lat : Word32) :
    probeOutcome n result lat s =
      applyOutcome n result lat (modifyHealth n (fun h => { h with claim := .none }) s) := by
  rcases result.answer_or_failure with ha | hf
  · rw [probeOutcome_answer ha, applyOutcome_answer ha]
  · have ho : (s.monitor.health[n]).state ≠ .offline := by
      refine h.resolve_right ?_
      rcases hf with rfl | ⟨d, rfl⟩ <;> simp
    rw [probeOutcome_failure hf, if_neg ho, applyOutcome_failure hf]

/-! ### The health record (R36, R37) -/

theorem latency_eq {sent first : Stamp} {s : State} (hs : s.engine.endOfRequest = some sent)
    (hf : s.engine.firstChar = some first) : latency s = (first - sent).setWidth 32 := by
  unfold latency
  rw [hs, hf]

theorem deliverToMonitor_probe {x : Txn} {n : NodeIx} (h : x.claimant = .probe n) (result : DropResult) (s : State) :
    deliverToMonitor x result s = s := by
  unfold deliverToMonitor
  rw [h]

theorem deliverToMonitor_node {x : Txn} {n : NodeIx} (hx : ∀ m, x.claimant ≠ .probe m) (hn : nodeIx? x.node = some n)
    (result : DropResult) (s : State) : deliverToMonitor x result s = applyOutcome n result (latency s) s := by
  unfold deliverToMonitor
  rw [hn]
  cases hc : x.claimant with
  | host i => rfl
  | poll i => rfl
  | probe m => exact absurd hc (hx m)

/-- A broadcast reaches no health record (R36). -/
theorem deliverToMonitor_broadcast {x : Txn} (h : x.node.val = 31) (result : DropResult) (s : State) :
    deliverToMonitor x result s = s := by
  have hn : nodeIx? x.node = none := dif_neg (by omega)
  unfold deliverToMonitor
  rw [hn]
  cases x.claimant <;> rfl

/-! ### The transaction is left (R36, R43, R44) -/

theorem leaveTransaction_idle {s : State} (h : s.engine.pendingIsolate = none) :
    leaveTransaction s =
      { s with
        engine :=
          { clearAttempt s.engine with port := .idle, txn := none, txFrame := [], txStart := none, dropDE := false } } := by
  rw [leaveTransaction, h]

theorem leaveTransaction_isolate {tag : Tag} {s : State} (h : s.engine.pendingIsolate = some tag) :
    leaveTransaction s =
      answer (BitVec.ofNat 8 tag.val) 0#8 .ok 0#8 [.raw [6#8]] (flushPort .isolated (portIsolated s)) := by
  rw [leaveTransaction, h]
  rfl

/-- Handing the outcome on leaves the engine (R36). -/
theorem delivered_engine (x : Txn) (result : DropResult) (s : State) :
    (deliverToMonitor x result (deliverToOwner x result s)).engine = s.engine := by
  simp

/-- Settles O44. -/
theorem finalOutcomeIsHandedOnInOrder : Obligations.FinalOutcomeIsHandedOnInOrder := by
  refine ⟨fun x result s hi => ⟨_, rfl, ?_⟩, fun x result tag s hi => ⟨_, rfl, ?_⟩,
    fun x i result s hx => deliverToOwner_poll hx result s,
    fun x n result s hx => ⟨⟨_, rfl, fun ho hf => ?_, fun h => ?_⟩, deliverToMonitor_probe hx result s⟩, fun sent first s => latency_eq, fun x i slot result s hx hs ha => ?_,
    fun x i slot result s hx hs ha => ?_, fun x n result s hx hn => deliverToMonitor_node hx hn result s,
    fun x result s h _ => deliverToMonitor_broadcast h result s⟩
  · rw [deliver, leaveTransaction_idle (by rw [delivered_engine, hi])]
    rfl
  · rw [deliver, leaveTransaction_isolate (by rw [delivered_engine, hi])]
    rfl
  · rw [deliverToOwner_probe hx, probeOutcome_rearmed ho hf, armProbe_eq (s := s) (by simp) (by simp)]
    rfl
  · rw [deliverToOwner_probe hx, probeOutcome_applied h]
    rfl
  · exact (deliverToOwner_host hx result s).trans (finishHost_active hs ha result)
  · exact (deliverToOwner_host hx result s).trans (finishHost_aborted hs ha result)

end Sys2Proof.Machine
end

section
/-! PROOF. NODE_ENABLE and NODE_REVIVE by the node's health state (R61, R62, R104, R134). -/

namespace Sys2Proof.Machine

/-! ### Health states through a grant decision (R9) -/

/-- A grant changes the claim of a record, never its health state (R57). -/
theorem takeGrant_healthState (g : Grant) (m : NodeIx) (s : State) :
    ((takeGrant g s).monitor.health[m]).state = (s.monitor.health[m]).state := by
  cases g with
  | urgent i rest => simp [takeGrant]
  | poll i rest => simp [takeGrant]
  | probe n rest =>
    rw [takeGrant, grantProbe, (enterGuard_keeps _ _).2.2.2.2.1, modifyHealth_health]
    split
    · next e => rw [e]
    · rfl
  | normal i rest credit => simp [takeGrant]
  | bulk i rest => simp [takeGrant]

theorem decideDrop_healthState (m : NodeIx) (s : State) :
    ((decideDrop s).monitor.health[m]).state = (s.monitor.health[m]).state := by
  unfold decideDrop
  split
  · split
    · rfl
    · exact takeGrant_healthState ..
  · rfl

/-! ### The requests (R61, R62) -/

/-- A node request answered with the node's health state as it stands (R134). -/
theorem answerNode_eq {f : ManageFrame} {n : NodeIx} {state : HealthState} {s : State}
    (harg : (argByte f 0).toNat = n.val + 1) (h : (s.monitor.health[n]).state = state) (status : Status) :
    answerNode f n status s = answer f.tag f.node status 0#8 [.raw [argByte f 0, state.code]] s := by
  rw [answerNode, nodeResult_eq harg, h, reply]

theorem exec_nodeEnable {t : Arrival} {f : ManageFrame} {s : State} (hs : Serving s)
    (h : ManagePasses .nodeEnable f s) :
    exec (.nodeEnable t f) s = .next (decideA (ownNodeEnable f (s.atFrame t))) :=
  congrArg Host.Outcome.next (takeManage_of_passes t ownNodeEnable hs h)

theorem exec_nodeRevive {t : Arrival} {f : ManageFrame} {s : State} (hs : Serving s)
    (h : ManagePasses .nodeRevive f s) :
    exec (.nodeRevive t f) s = .next (decideA (ownNodeRevive f (s.atFrame t))) :=
  congrArg Host.Outcome.next (takeManage_of_passes t ownNodeRevive hs h)

section
variable {f : ManageFrame} {n : NodeIx} {s : State}

theorem ownNodeEnable_disabled (harg : (argByte f 0).toNat = n.val + 1)
    (h : (s.monitor.health[n]).state = .disabled) :
    ownNodeEnable f s =
      answer f.tag f.node .ok 0#8 [.raw [argByte f 0, HealthState.unknown.code]]
        (modifyHealth n (fun h => { h with state := .unknown, failures := 0 }) s) := by
  rw [ownNodeEnable, argNode_eq_some harg]
  dsimp only
  rw [h]
  exact answerNode_eq harg (by rw [modifyHealth_health, if_pos rfl]) _

/-- A node that is not DISABLED is left as it is (R61). -/
theorem ownNodeEnable_kept (harg : (argByte f 0).toNat = n.val + 1) (h : (s.monitor.health[n]).state ≠ .disabled) :
    ownNodeEnable f s =
      answer f.tag f.node (if (s.monitor.health[n]).state = .absent then .nodeAbsent else .ok) 0#8
        [.raw [argByte f 0, (s.monitor.health[n]).state.code]] s := by
  rw [ownNodeEnable, argNode_eq_some harg, ← answerNode_eq harg rfl]
  dsimp only
  split
  · next ha => rw [if_pos ha]
  · next hd => exact absurd hd h
  · next ha hd => rw [if_neg ha]

theorem ownNodeRevive_offline (harg : (argByte f 0).toNat = n.val + 1)
    (h : (s.monitor.health[n]).state = .offline) : ownNodeRevive f s = reviveOffline f n s := by
  rw [ownNodeRevive, argNode_eq_some harg]
  dsimp only
  rw [h]

/-- A node that is not OFFLINE is left as it is (R62). -/
theorem ownNodeRevive_kept (harg : (argByte f 0).toNat = n.val + 1) (h : (s.monitor.health[n]).state ≠ .offline) :
    ownNodeRevive f s =
      answer f.tag f.node
        (if (s.monitor.health[n]).state = .absent then .nodeAbsent
        else if (s.monitor.health[n]).state = .disabled then .nodeDisabled else .ok) 0#8
        [.raw [argByte f 0, (s.monitor.health[n]).state.code]] s := by
  rw [ownNodeRevive, argNode_eq_some harg, ← answerNode_eq harg rfl]
  dsimp only
  split
  · next ha => rw [if_pos ha]
  · next hd => rw [hd]; rfl
  · next ho => exact absurd ho h
  · next ha hd ho => rw [if_neg ha, if_neg hd]

/-! ### NODE_REVIVE of an OFFLINE node (R62) -/

theorem reviveOffline_armed (harg : (argByte f 0).toNat = n.val + 1) (h : (s.monitor.health[n]).state = .offline)
    (hc : (s.monitor.health[n]).claim = .none) (hd : (s.monitor.health[n]).probeDue.isSome = true)
    (hj : s.engine.port ≠ .jammed) (hi : s.engine.port ≠ .isolated) :
    reviveOffline f n s =
      answer f.tag f.node .ok 0#8 [.raw [argByte f 0, HealthState.offline.code]] (decideDrop (listProbe n s)) := by
  have hstate : ((decideDrop (listProbe n s)).monitor.health[n]).state = .offline := by
    rw [decideDrop_healthState, listProbe, modifyHealth_health, if_pos rfl]
    exact h
  unfold reviveOffline
  dsimp only
  rw [if_neg (not_not.2 hc), if_pos hd, answerNode_eq harg hstate]
  split
  · next hp => exact absurd hp hj
  · next hp => exact absurd hp hi
  · rfl

theorem reviveOffline_claimed (harg : (argByte f 0).toNat = n.val + 1) (h : (s.monitor.health[n]).state = .offline)
    (hc : (s.monitor.health[n]).claim ≠ .none) :
    reviveOffline f n s = answer f.tag f.node .ok 0#8 [.raw [argByte f 0, HealthState.offline.code]] s :=
  (if_pos hc).trans (answerNode_eq harg h _)

/-- With the port out of service the refusal names its state (R62). -/
theorem reviveOffline_outOfService (harg : (argByte f 0).toNat = n.val + 1)
    (h : (s.monitor.health[n]).state = .offline) (hc : (s.monitor.health[n]).claim = .none)
    (hp : s.engine.port = .jammed ∨ s.engine.port = .isolated) :
    reviveOffline f n s =
      answer f.tag f.node (if s.engine.port = .jammed then .lineFault else .isolated) 0#8
        [.raw [argByte f 0, HealthState.offline.code]] s := by
  unfold reviveOffline
  dsimp only
  rw [if_neg (not_not.2 hc), ← answerNode_eq harg h]
  rcases hp with hp | hp <;> rw [hp] <;> rfl

end

/-- Settles O32. -/
theorem nodeEnableAndReviveFollowHealthState : Obligations.NodeEnableAndReviveFollowHealthState := by
  refine ⟨fun t f s hs hp => ⟨fun n harg => ⟨fun h => ?_, fun h => ?_, fun hd ha => ?_⟩, fun harg => ?_⟩,
    fun t f s hs hp harg => ?_,
    fun t f n s hs hp harg => ⟨fun h => ⟨fun hc hd hj hi => ⟨_, rfl, ?_⟩, fun hc => ?_, fun hc hj => ?_,
      fun hc hi => ?_⟩, fun h => ?_, fun h => ?_, fun h => ?_⟩⟩
  · rw [exec_nodeEnable hs hp, ownNodeEnable_disabled (s := s.atFrame t) harg h]
    rfl
  · rw [exec_nodeEnable hs hp, ownNodeEnable_kept (s := s.atFrame t) harg (by rw [atFrame_monitor, h]; decide),
      atFrame_monitor, h]
    rfl
  · rw [exec_nodeEnable hs hp, ownNodeEnable_kept (s := s.atFrame t) harg hd, atFrame_monitor, if_neg ha]
  · rw [exec_nodeEnable hs hp, ownNodeEnable, argNode_eq_none harg]
    rfl
  · rw [exec_nodeRevive hs hp, ownNodeRevive, argNode_eq_none harg]
    rfl
  · rw [exec_nodeRevive hs hp, ownNodeRevive_offline (s := s.atFrame t) harg h,
      reviveOffline_armed (s := s.atFrame t) harg h hc hd hj hi]
    rfl
  · rw [exec_nodeRevive hs hp, ownNodeRevive_offline (s := s.atFrame t) harg h,
      reviveOffline_claimed (s := s.atFrame t) harg h hc]
  · rw [exec_nodeRevive hs hp, ownNodeRevive_offline (s := s.atFrame t) harg h,
      reviveOffline_outOfService (s := s.atFrame t) harg h hc (.inl hj), show (s.atFrame t).engine.port = .jammed from hj]
    rfl
  · rw [exec_nodeRevive hs hp, ownNodeRevive_offline (s := s.atFrame t) harg h,
      reviveOffline_outOfService (s := s.atFrame t) harg h hc (.inr hi), show (s.atFrame t).engine.port = .isolated from hi]
    rfl
  · rw [exec_nodeRevive hs hp, ownNodeRevive_kept (s := s.atFrame t) harg, atFrame_monitor]
    · rcases h with h | h | h <;> rw [h] <;> rfl
    · rcases h with h | h | h <;> rw [atFrame_monitor, h] <;> decide
  · rw [exec_nodeRevive hs hp,
      ownNodeRevive_kept (s := s.atFrame t) harg (by rw [atFrame_monitor, h]; decide), atFrame_monitor, h]
    rfl
  · rw [exec_nodeRevive hs hp,
      ownNodeRevive_kept (s := s.atFrame t) harg (by rw [atFrame_monitor, h]; decide), atFrame_monitor, h]
    rfl

end Sys2Proof.Machine
end

section
/-! PROOF. The freshness, probe, session and resend timers at their instants (R56, R77, R114, R163). -/

namespace Sys2Proof.Machine

/-- What a timer's event finds: an instant that the clock has reached. -/
theorem any_reached {x : Option Stamp} {due : Stamp} {s : State} (hx : x = some due) (h : due ≤ s.time.clock) :
    x.any (reached s) = true := by
  subst hx
  exact decide_eq_true h

/-- A FRESH cell becomes STALE strictly past its limit (R77). -/
theorem freshnessPast_of_fresh {i : CellIx} {limit : Stamp} {s : State} (hf : (s.calendar.cells[i]).state = .fresh)
    (hl : (s.calendar.cells[i]).limit = some limit) :
    freshnessPast i s = if limit < s.time.clock then modifyCell i Cell.stale s else s := by
  unfold freshnessPast
  rw [hf, hl]
  by_cases h : limit < s.time.clock <;> simp [h]

/-- With the port in service, an expired probe timer lists the probe, and a grant decision follows (R56). -/
theorem probeDueReached_inService {n : NodeIx} {due : Stamp} {s : State} (hd : (s.monitor.health[n]).probeDue = some due)
    (h : due ≤ s.time.clock) (hj : s.engine.port ≠ .jammed) (hi : s.engine.port ≠ .isolated) :
    probeDueReached n s = settle (listProbe n s) := by
  unfold probeDueReached
  rw [if_pos (any_reached hd h)]
  split
  · next hp => exact absurd hp hj
  · next hp => exact absurd hp hi
  · rfl

/-- With the port out of service, an expired probe timer is armed again (R56). -/
theorem probeDueReached_outOfService {n : NodeIx} {due : Stamp} {s : State}
    (hd : (s.monitor.health[n]).probeDue = some due) (h : due ≤ s.time.clock)
    (hp : s.engine.port = .jammed ∨ s.engine.port = .isolated) : probeDueReached n s = armProbe n s := by
  unfold probeDueReached
  rw [if_pos (any_reached hd h)]
  rcases hp with hp | hp <;> rw [hp]

theorem sessionExpiry_of_reached {id : Byte} {expiry : Stamp} {s : State} (hs : s.config.session = .opened id expiry)
    (h : expiry ≤ s.time.clock) : sessionExpiry s = decideA (expireSession id s) := by
  unfold sessionExpiry
  rw [hs]
  exact if_pos (decide_eq_true h)

theorem resendExpiry_of_reached {expiry : Stamp} {s : State} (hr : s.notices.resend = some expiry)
    (h : expiry ≤ s.time.clock) :
    resendExpiry s = decideA { s with notices := { s.notices with resend := none, resendDue := true } } :=
  if_pos (any_reached hr h)

/-- Settles O51. -/
theorem timersExpireAtTheirInstants : Obligations.TimersExpireAtTheirInstants := by
  refine ⟨fun us i limit s hh hf hl => ?_, fun us n due s hh hd h => ⟨fun hj hi => ?_, fun hp => ?_⟩,
    fun us id expiry s hh hs h => ?_, fun us expiry s hh hr h => ?_⟩
  · change Host.Outcome.next (running us (freshnessPast i) s) = _
    rw [running_of_not_held hh, freshnessPast_of_fresh (s := advance us s) hf hl]
    rfl
  · change Host.Outcome.next (running us (probeDueReached n) s) = _
    rw [running_of_not_held hh, probeDueReached_inService (s := advance us s) hd h hj hi]
    rfl
  · change Host.Outcome.next (running us (probeDueReached n) s) = _
    rw [running_of_not_held hh, probeDueReached_outOfService (s := advance us s) hd h hp]
    rfl
  · change Host.Outcome.next (running us sessionExpiry s) = _
    rw [running_of_not_held hh, sessionExpiry_of_reached (s := advance us s) hs h]
    rfl
  · change Host.Outcome.next (running us resendExpiry s) = _
    rw [running_of_not_held hh, resendExpiry_of_reached (s := advance us s) hr h]
    rfl

end Sys2Proof.Machine
end

section
/-! PROOF. Flushes one after another, of requests of which nothing has been sent (R5, R14, R17). -/

namespace Sys2Proof.Machine

/-! ### The requests that wait (R1, R5) -/

theorem mem_queueOrder {p : Pool} {i : SlotIx} : i ∈ queueOrder p ↔ ∃ cls, i ∈ p.queueOf cls := by
  constructor
  · intro h
    rcases List.mem_append.1 h with h | h
    · rcases List.mem_append.1 h with h | h
      · exact ⟨.urgent, h⟩
      · exact ⟨.normal, h⟩
    · exact ⟨.bulk, h⟩
  · rintro ⟨cls, h⟩
    cases cls <;> simp_all [queueOrder, Pool.queueOf]

theorem queueOrder_filter {p q : Pool} {keep : SlotIx → Bool}
    (h : ∀ cls, q.queueOf cls = (p.queueOf cls).filter keep) : queueOrder q = (queueOrder p).filter keep := by
  have hu : q.urgent = p.urgent.filter keep := h .urgent
  have hn : q.normal = p.normal.filter keep := h .normal
  have hb : q.bulk = p.bulk.filter keep := h .bulk
  simp only [queueOrder, hu, hn, hb, List.filter_append]

/-- Every slot in a class queue is occupied, and nothing of its request has been sent (R1, R5). -/
def WaitsUnsent (s : State) : Prop :=
  ∀ i ∈ queueOrder s.pool, slotHolds s i (fun slot => slot.sentOnce = false)

theorem QueuesHoldQueued.waitsUnsent {s : State} (h : QueuesHoldQueued s) : WaitsUnsent s := by
  obtain ⟨hmem, -, hfresh⟩ := h
  intro i hi
  obtain ⟨cls, hcls⟩ := mem_queueOrder.1 hi
  obtain ⟨slot, hslot, hqueued, -⟩ := (hmem cls i).1 hcls
  exact ⟨slot, hslot, ((hfresh i slot hslot).1 hqueued).2⟩

/-! ### The calendar (R14, R78) -/

/-- A WRITE that was not sent stales no cell when it completes (R14). -/
theorem cellsAfter_unsent {slot : Slot} (h : slot.sentOnce = false) (status : Status) (detail : Byte) (s : State) :
    cellsAfter slot status detail s = s.calendar.cells :=
  if_neg (by simp [handsOver, h])

theorem completeAll_calendar_unsent (status : Status) {l : List SlotIx} {s : State}
    (h : ∀ i ∈ l, ∀ slot, s.pool.slots[i] = some slot → slot.sentOnce = false) :
    (completeAll status l s).calendar = s.calendar := by
  induction l generalizing s with
  | nil => rfl
  | cons i l ih =>
    have hstep : (completeSlot i status 0#8 [] s).calendar = s.calendar := by
      cases hi : s.pool.slots[i] with
      | none => rw [completeSlot_of_none _ _ _ hi]
      | some slot =>
        rw [completeSlot_of_some _ _ _ hi]
        exact congrArg (fun cells => { s.calendar with cells := cells })
          (cellsAfter_unsent (h i List.mem_cons_self slot hi) status 0#8 s)
    rw [completeAll_cons, ih fun j hj slot hs => ?_, hstep]
    rw [completeSlot_slots] at hs
    split at hs
    · obtain ⟨x, hx, rfl⟩ := Option.map_eq_some_iff.1 hs
      exact h j (List.mem_cons_of_mem i hj) x hx
    · exact h j (List.mem_cons_of_mem i hj) slot hs

theorem flush_calendar_unsent {p : Slot → Bool} {s : State}
    (h : ∀ i ∈ flushScope p s, ∀ slot, s.pool.slots[i] = some slot → slot.sentOnce = false) (status : Status) :
    (flush p status s).calendar = s.calendar :=
  completeAll_calendar_unsent (s := leaveQueues _ s) status h

/-! ### One flush after another (R17) -/

theorem flush_queueOf (p : Slot → Bool) (status : Status) (s : State) (cls : Class) :
    (flush p status s).pool.queueOf cls =
      (s.pool.queueOf cls).filter (fun i => !(s.pool.slots[i]).all p) := by
  obtain ⟨hu, hn, hb, -⟩ := flush_queues p status s
  cases cls with
  | urgent => exact hu
  | normal => exact hn
  | bulk => exact hb

/-- From `s` to `t` the waiting requests that satisfy `p` have completed with a status, at the instant of `s`, and nothing
else has changed in the pool's slots and queues, in the calendar and in the time (R17). -/
structure Flushed (p : Slot → Bool) (status : Status) (s t : State) : Prop where
  slots : ∀ i : SlotIx, t.pool.slots[i] =
    if i ∈ queueOrder s.pool then
      (s.pool.slots[i]).map fun slot => if p slot = true then slot.finished status 0#8 [] s.time.clock else slot
    else s.pool.slots[i]
  queues : ∀ cls, t.pool.queueOf cls = (s.pool.queueOf cls).filter fun i => !(s.pool.slots[i]).any p
  calendar : t.calendar = s.calendar
  time : t.time = s.time

theorem Flushed.refl (status : Status) (s : State) : Flushed (fun _ => false) status s s where
  slots i := by simp
  queues cls := (List.filter_eq_self.2 fun i _ => by cases s.pool.slots[i] <;> rfl).symm
  calendar := rfl
  time := rfl

theorem Flushed.congr {p : Slot → Bool} {status : Status} {s t u : State} (h : Flushed p status s t)
    (hp : u.pool = t.pool) (hc : u.calendar = t.calendar) (ht : u.time = t.time) : Flushed p status s u where
  slots := by rw [hp]; exact h.slots
  queues := by rw [hp]; exact h.queues
  calendar := hc.trans h.calendar
  time := ht.trans h.time

section
variable {p : Slot → Bool} {status : Status} {s t : State}

/-- A waiting slot that the flushes so far have left keeps its record. -/
theorem Flushed.slot_left (h : Flushed p status s t) {i : SlotIx} {slot : Slot} (hi : i ∈ queueOrder s.pool)
    (hs : s.pool.slots[i] = some slot) (hp : p slot = false) : t.pool.slots[i] = some slot := by
  rw [h.slots, if_pos hi, hs, Option.map_some, if_neg (by simp [hp])]

/-- A further flush takes those of its scope that still wait, in the order of the queues. -/
theorem Flushed.scope (h : Flushed p status s t) (hw : WaitsUnsent s) (q : Slot → Bool) :
    flushScope q t =
      (queueOrder s.pool).filter fun i => (s.pool.slots[i]).any fun slot => q slot && !p slot := by
  rw [flushScope, queueOrder_filter h.queues, List.filter_filter]
  refine List.filter_congr fun i hi => ?_
  obtain ⟨slot, hslot, -⟩ := hw i hi
  cases hp : p slot with
  | true => simp only [hslot, Option.any_some, hp, Bool.not_true, Bool.and_false]
  | false => simp only [hslot, h.slot_left hi hslot hp, Option.any_some, hp, Bool.not_false, Bool.and_true]

theorem Flushed.flush (h : Flushed p status s t) (hw : WaitsUnsent s) (q : Slot → Bool) :
    Flushed (fun slot => p slot || q slot) status s (flush q status t) where
  slots i := by
    rw [flush_slots, h.scope hw, h.slots, h.time]
    by_cases hi : i ∈ queueOrder s.pool
    · obtain ⟨slot, hslot, -⟩ := hw i hi
      cases hp : p slot <;> cases hq : q slot <;> simp [-Fin.getElem_fin, hi, hslot, hp, hq]
    · simp [-Fin.getElem_fin, hi]
  queues cls := by
    rw [flush_queueOf, h.queues, List.filter_filter]
    refine List.filter_congr fun i hi => ?_
    have hq := mem_queueOrder.2 ⟨cls, hi⟩
    obtain ⟨slot, hslot, -⟩ := hw i hq
    cases hp : p slot with
    | true => simp only [hslot, Option.any_some, hp, Bool.not_true, Bool.and_false, Bool.true_or]
    | false =>
      simp only [hslot, h.slot_left hq hslot hp, Option.any_some, Option.all_some, hp, Bool.not_false, Bool.and_true,
        Bool.false_or]
  calendar := by
    refine (flush_calendar_unsent (fun i hi slot hs => ?_) status).trans h.calendar
    rw [h.scope hw, List.mem_filter] at hi
    obtain ⟨hq, hany⟩ := hi
    obtain ⟨x, hx, hunsent⟩ := hw i hq
    rw [hx, Option.any_some, Bool.and_eq_true, Bool.not_eq_true'] at hany
    rw [h.slot_left hq hx hany.2] at hs
    exact Option.some.inj hs ▸ hunsent
  time := by simp [h.time]

end

end Sys2Proof.Machine
end

section
/-! PROOF. What the leftovers of a due list come to: miss counts, "polls missed" and CYCLE_OVERRUN (R70). -/

namespace Sys2Proof.Machine

/-- A cell whose poll was still due at a boundary (R70). -/
def Cell.missed (c : Cell) : Cell :=
  { c with missCount := min 255 (c.missCount + 1) }

/-- The entries of a list are counted as missed polls, one after another (R70). -/
def missPolls (l : List CellIx) (s : State) : State :=
  l.foldl (fun s i => bump .pollsMissed (modifyCell i Cell.missed s)) s

theorem accountLeftovers_eq (s : State) :
    accountLeftovers s =
      if s.calendar.dueList = [] then
        { missPolls s.calendar.dueList s with
          calendar := { (missPolls s.calendar.dueList s).calendar with dueList := [] } }
      else
        raise .cycleOverrun none (BitVec.ofNat 16 s.calendar.dueList.length)
          { missPolls s.calendar.dueList s with
            calendar := { (missPolls s.calendar.dueList s).calendar with dueList := [] } } := rfl

/-! ### One list of missed polls -/

theorem missPolls_cons (i : CellIx) (l : List CellIx) (s : State) :
    missPolls (i :: l) s = missPolls l (bump .pollsMissed (modifyCell i Cell.missed s)) := rfl

theorem missPolls_keeps (l : List CellIx) (s : State) :
    (missPolls l s).segment = s.segment ∧ (missPolls l s).time = s.time ∧ (missPolls l s).notices = s.notices ∧
    (missPolls l s).calendar = { s.calendar with cells := (missPolls l s).calendar.cells } := by
  induction l generalizing s with
  | nil => exact ⟨rfl, rfl, rfl, rfl⟩
  | cons i l ih => exact ih _

theorem modifyCell_cells (i k : CellIx) (f : Cell → Cell) (s : State) :
    (modifyCell i f s).calendar.cells[k] = if k = i then f s.calendar.cells[i] else s.calendar.cells[k] := by
  simp only [modifyCell, Fin.getElem_fin, Vector.getElem_set, Fin.ext_iff, eq_comm]

theorem missPolls_cells {l : List CellIx} (hl : l.Nodup) (k : CellIx) (s : State) :
    (missPolls l s).calendar.cells[k] = if k ∈ l then (s.calendar.cells[k]).missed else s.calendar.cells[k] := by
  induction l generalizing s with
  | nil => rfl
  | cons i l ih =>
    obtain ⟨hi, hl⟩ := List.nodup_cons.1 hl
    rw [missPolls_cons, ih hl, (bump_keeps _ _).2.2.2.2.2.2.2.1, modifyCell_cells]
    by_cases hk : k = i
    · subst hk
      simp [hi]
    · simp [hk]

theorem missPolls_counter (l : List CellIx) (c : Counter) (s : State) :
    (missPolls l s).counter c =
      if c = .pollsMissed then s.counter c + BitVec.ofNat 32 l.length else s.counter c := by
  induction l generalizing s with
  | nil => simp [missPolls]
  | cons i l ih =>
    have hcell : (modifyCell i Cell.missed s).counter c = s.counter c := rfl
    rw [missPolls_cons, ih, counter_bump, hcell]
    split
    · rw [List.length_cons, Nat.add_comm, BitVec.ofNat_add, BitVec.add_assoc]
    · rfl

/-! ### The leftovers (R70) -/

theorem accountLeftovers_calendar (s : State) :
    (accountLeftovers s).calendar =
      { s.calendar with cells := (missPolls s.calendar.dueList s).calendar.cells, dueList := [] } := by
  obtain ⟨-, -, -, hcal⟩ := missPolls_keeps s.calendar.dueList s
  rw [accountLeftovers_eq, apply_ite State.calendar, (raise_keeps ..).2.2.2.2.2.2.2.2.1, ite_self, hcal]

theorem accountLeftovers_cells {s : State} (hl : s.calendar.dueList.Nodup) (k : CellIx) :
    (accountLeftovers s).calendar.cells[k] =
      if k ∈ s.calendar.dueList then (s.calendar.cells[k]).missed else s.calendar.cells[k] := by
  rw [accountLeftovers_calendar]
  exact missPolls_cells hl k s

theorem accountLeftovers_counter (c : Counter) (s : State) :
    (accountLeftovers s).counter c =
      if c = .pollsMissed then s.counter c + BitVec.ofNat 32 s.calendar.dueList.length else s.counter c := by
  have hstatus : (accountLeftovers s).status = (missPolls s.calendar.dueList s).status := by
    rw [accountLeftovers_eq, apply_ite State.status, raise_status, ite_self]
  rw [State.counter, hstatus]
  exact missPolls_counter s.calendar.dueList c s

theorem accountLeftovers_notices {s : State} (h : s.repeater = false) :
    (accountLeftovers s).notices =
      if s.calendar.dueList = [] then s.notices
      else
        s.notices.takeRaise .cycleOverrun none (BitVec.ofNat 16 s.calendar.dueList.length) s.time.clock := by
  obtain ⟨hsegment, htime, hnotices, -⟩ := missPolls_keeps s.calendar.dueList s
  have hrepeater : (missPolls s.calendar.dueList s).repeater = false := by rw [State.repeater, hsegment]; exact h
  rw [accountLeftovers_eq]
  split
  · exact hnotices
  · rw [raise_of_serving (by exact hrepeater)]
    simp only [hnotices, htime]

end Sys2Proof.Machine
end

section
/-! PROOF. The presence updates of a commit: the records, and the requests and probes of the nodes made ABSENT (R18, R64). -/

namespace Sys2Proof.Machine

/-! ### Addresses (R50) -/

theorem nodeIx?_nodeAddr (n : NodeIx) : nodeIx? (nodeAddr n) = some n := by
  have hn := n.isLt
  exact dif_pos ⟨by simp [nodeAddr], by simp only [nodeAddr]; omega⟩

theorem addressedTo_iff {n : NodeIx} {slot : Slot} :
    addressedTo (nodeAddr n) slot = true ↔ nodeIx? slot.node = some n := by
  rw [addressedTo, beq_iff_eq]
  exact ⟨fun h => h ▸ nodeIx?_nodeAddr n, fun h => (nodeAddr_of_nodeIx? h).symm⟩

/-- A slot is addressed to a node of a list. -/
def addressedIn (r : List NodeIx) (slot : Slot) : Bool :=
  (nodeIx? slot.node).any fun n => decide (n ∈ r)

theorem addressedIn_nil : addressedIn [] = fun _ => false := by
  funext slot
  simp [addressedIn]

theorem addressedIn_concat (r : List NodeIx) (n : NodeIx) :
    addressedIn (r ++ [n]) = fun slot => addressedIn r slot || addressedTo (nodeAddr n) slot := by
  funext slot
  rw [Bool.eq_iff_iff, Bool.or_eq_true, addressedTo_iff]
  cases h : nodeIx? slot.node <;> simp [addressedIn, h]

/-- The requests of a node that is not in the list have not left with those that are. -/
theorem addressedTo_not_addressedIn {r : List NodeIx} {n : NodeIx} (hn : n ∉ r) (slot : Slot) :
    (addressedTo (nodeAddr n) slot && !addressedIn r slot) = addressedTo (nodeAddr n) slot := by
  cases h : addressedTo (nodeAddr n) slot with
  | false => rfl
  | true => simp [addressedIn, addressedTo_iff.1 h, hn]

/-! ### Nodes made ABSENT (R18, R64) -/

theorem updatePresence_removed_eq (n : NodeIx) (s : State) :
    updatePresence true false n s =
      evalNodeIndicator
        { flush (addressedTo (nodeAddr n)) .nodeAbsent s with
          monitor := (updatePresence true false n s).monitor } := by
  unfold updatePresence
  dsimp only
  rw [flush_modifyHealth]
  rfl

/-- The replies of the waiting requests of the nodes of a list, node by node in the list's order, each node's in the order of
the queues (R17, R64). -/
def repliesTo (r : List NodeIx) (s : State) : List UpEntry :=
  r.flatMap fun n =>
    ((queueOrder s.pool).filter fun i => (s.pool.slots[i]).any (addressedTo (nodeAddr n))).map UpEntry.ofSlot

/-- From `s` to `t` the nodes of a list have been made ABSENT: their requests are flushed NODE_ABSENT, their probes have left
the list, and no counter has changed (R64). -/
structure NodesLeft (r : List NodeIx) (s t : State) : Prop where
  flushed : Flushed (addressedIn r) .nodeAbsent s t
  trunk : t.trunk = { s.trunk with upstream := s.trunk.upstream ++ repliesTo r s }
  probeList : t.monitor.probeList = s.monitor.probeList.filter fun n => !decide (n ∈ r)
  counters : t.status.counters = s.status.counters

theorem NodesLeft.nil (s : State) : NodesLeft [] s s where
  flushed := by rw [addressedIn_nil]; exact .refl .nodeAbsent s
  trunk := by simp [repliesTo]
  probeList := by simp
  counters := rfl

/-- A node that is not made ABSENT loses no request and no probe. -/
theorem NodesLeft.kept {r : List NodeIx} {s t : State} (h : NodesLeft r s t) (n : NodeIx) {before after : Bool}
    (hk : (before && !after) = false) : NodesLeft r s (updatePresence before after n t) := by
  cases before with
  | false =>
    cases after with
    | false => exact h
    | true => exact ⟨h.flushed.congr rfl rfl rfl, h.trunk, h.probeList, h.counters⟩
  | true =>
    cases after with
    | false => cases hk
    | true => exact h

theorem NodesLeft.removed {r : List NodeIx} {n : NodeIx} {s t : State} (h : NodesLeft r s t) (hw : WaitsUnsent s)
    (hn : n ∉ r) : NodesLeft (r ++ [n]) s (updatePresence true false n t) where
  flushed := by
    rw [addressedIn_concat, updatePresence_removed_eq]
    exact (h.flushed.flush hw _).congr rfl rfl rfl
  trunk := by
    have hscope : flushScope (addressedTo (nodeAddr n)) t =
        (queueOrder s.pool).filter fun i => (s.pool.slots[i]).any (addressedTo (nodeAddr n)) := by
      simp only [h.flushed.scope hw, addressedTo_not_addressedIn hn]
    rw [updatePresence_removed_eq, (evalNodeIndicator_keeps _).2.2.2.2.2.2.2.2.2.1]
    simp only [flush_trunk, hscope, h.trunk, repliesTo, List.flatMap_append, List.flatMap_singleton, List.append_assoc]
  probeList := by
    rw [(updatePresence_removed n t).1, h.probeList, List.filter_filter]
    refine List.filter_congr fun m _ => ?_
    rw [Bool.eq_iff_iff]
    simp [and_comm]
  counters := by
    rw [updatePresence_removed_eq, evalNodeIndicator_counters]
    simp only [flush_keeps, h.counters]

/-! ### Every node (R64) -/

/-- The presence updates of a list of nodes, from one bank to another (R64). -/
def updatePresences (old new : Tables) (l : List NodeIx) (s : State) : State :=
  l.foldl (fun s n => updatePresence (old.node[n]).present (new.node[n]).present n s) s

theorem updatePresences_concat (old new : Tables) (l : List NodeIx) (n : NodeIx) (s : State) :
    updatePresences old new (l ++ [n]) s =
      updatePresence (old.node[n]).present (new.node[n]).present n (updatePresences old new l s) :=
  List.foldl_concat ..

/-- No presence update changes the bank that the next one reads. -/
theorem updateNodes_eq (old : Tables) (s : State) :
    updateNodes old s = updatePresences old s.config.active (List.finRange 30) s := by
  have h : ∀ (l : List NodeIx) (u : State), u.config.active = s.config.active →
      l.foldl (fun s n => updatePresence (old.node[n]).present (s.config.active.node[n]).present n s) u =
        updatePresences old s.config.active l u := by
    intro l
    induction l with
    | nil => exact fun _ _ => rfl
    | cons n l ih =>
      intro u hu
      rw [List.foldl_cons, ih _ (by simp [hu]), hu]
      rfl
  exact h _ s rfl

theorem nodesLeft_updatePresences {s : State} (hw : WaitsUnsent s) (old new : Tables) {l : List NodeIx} (hl : l.Nodup) :
    NodesLeft (l.filter (nodeRemoved old new)) s (updatePresences old new l s) := by
  induction l using List.reverseRecOn with
  | nil => exact .nil s
  | append_singleton l n ih =>
    obtain ⟨hl, -, hn⟩ := List.nodup_append.1 hl
    have hprev := ih hl
    rw [updatePresences_concat, List.filter_append]
    cases hr : nodeRemoved old new n with
    | false =>
      rw [List.filter_singleton, hr, cond_false, List.append_nil]
      exact hprev.kept n hr
    | true =>
      obtain ⟨hold, hnew⟩ := Bool.and_eq_true_iff.1 hr
      rw [List.filter_singleton, hr, cond_true, hold, (Bool.not_eq_true' _).mp hnew]
      exact hprev.removed hw fun hm => hn n (List.mem_filter.1 hm).1 n List.mem_cons_self rfl

theorem nodesLeft_updateNodes {s : State} (hw : WaitsUnsent s) (old : Tables) :
    NodesLeft ((List.finRange 30).filter (nodeRemoved old s.config.active)) s (updateNodes old s) := by
  rw [updateNodes_eq]
  exact nodesLeft_updatePresences hw old s.config.active (List.nodup_finRange 30)

/-- A health record after a commit that finds its node present or not before and after (R64). -/
def Health.afterCommit (before after : Bool) (h : Health) : Health :=
  match before, after with
  | false, false => h
  | true, true => h
  | false, true => Health.cleared .unknown
  | true, false => Health.cleared .absent

theorem updatePresence_health (before after : Bool) (n m : NodeIx) (s : State) :
    (updatePresence before after n s).monitor.health[m] =
      if m = n then (s.monitor.health[m]).afterCommit before after else s.monitor.health[m] := by
  cases before <;> cases after
  case false.true => rw [updatePresence_added, modifyHealth_health]; rfl
  case true.false => rw [(updatePresence_removed n s).2.1]; rfl
  all_goals exact (ite_self _).symm

theorem updatePresences_health (old new : Tables) {l : List NodeIx} (hl : l.Nodup) (m : NodeIx) (s : State) :
    (updatePresences old new l s).monitor.health[m] =
      if m ∈ l then (s.monitor.health[m]).afterCommit (old.node[m]).present (new.node[m]).present
      else s.monitor.health[m] := by
  induction l using List.reverseRecOn with
  | nil => rfl
  | append_singleton l n ih =>
    obtain ⟨hl, -, hn⟩ := List.nodup_append.1 hl
    rw [updatePresences_concat, updatePresence_health, ih hl]
    by_cases hm : m = n
    · subst hm
      have hml : m ∉ l := fun h => hn m h m List.mem_cons_self rfl
      simp [hml]
    · simp [hm]

theorem updateNodes_health (old : Tables) (m : NodeIx) (s : State) :
    (updateNodes old s).monitor.health[m] =
      (s.monitor.health[m]).afterCommit (old.node[m]).present (s.config.active.node[m]).present := by
  rw [updateNodes_eq, updatePresences_health _ _ (List.nodup_finRange 30), if_pos (List.mem_finRange m)]

end Sys2Proof.Machine
end

section
/-! PROOF. The application of a commit at a boundary, and the mirror rebuilt by key (R69, R70, R83, R84, R122, R123). -/

namespace Sys2Proof.Machine

/-! ### The mirror rebuilt by key (R74, R83, R84) -/

theorem rebuildMirror_cells (old : Tables) (j : CellIx) (s : State) :
    (rebuildMirror old s).calendar.cells[j] =
      (carriedCell old s.calendar.cells s.config.active.poll[j]).recomputed s.config.active.poll[j]
        s.config.active.segment.baseCycle s.time.clock := by
  simp [rebuildMirror]

theorem carriedCell_new {old : Tables} {e : PollEntry} (h : e.used = false ∨ entryOfKey old e.key = none)
    (cells : Vector Cell 64) : carriedCell old cells e = Cell.cleared := by
  unfold carriedCell
  rcases h with h | h
  · rw [if_neg (by simp [h])]
  · rw [h, ite_self]

theorem carriedCell_carried {old : Tables} {e : PollEntry} {k : CellIx} (hu : e.used = true)
    (hk : entryOfKey old e.key = some k) (cells : Vector Cell 64) : carriedCell old cells e = cells[k] := by
  rw [carriedCell, if_pos hu, hk]

theorem recomputed_of_not_fresh {c : Cell} (h : c.state ≠ .fresh) (e : PollEntry) (baseCycle : Nat) (now : Stamp) :
    c.recomputed e baseCycle now = c := by
  unfold Cell.recomputed
  split
  · next hf _ => exact absurd hf h
  · rfl

theorem recomputed_of_fresh {c : Cell} {stamp : Stamp} (hf : c.state = .fresh) (hs : c.updateStamp = some stamp)
    (e : PollEntry) (baseCycle : Nat) (now : Stamp) :
    c.recomputed e baseCycle now =
      if ageLimit e baseCycle < now - stamp then c.stale else { c with limit := some (stamp + ageLimit e baseCycle) } := by
  unfold Cell.recomputed
  rw [hf, hs]

theorem entryOfKey_spec {b : Tables} {key : PollKey} {k : CellIx} (h : entryOfKey b key = some k) :
    (b.poll[k]).used = true ∧ (b.poll[k]).key = key := by
  simpa using List.find?_some h

/-! ### A commit at a boundary (R69, R122, R123) -/

/-- The state in which the presence of each node is updated: the leftovers and the cycle counted, SHADOW installed. -/
def shadowInstalled (s : State) : State :=
  installShadow (countCycle (accountLeftovers s))

/-- The state in which the mirror is rebuilt. -/
def nodesUpdated (s : State) : State :=
  updateNodes s.config.active (shadowInstalled s)

@[simp] theorem shadowInstalled_keeps (s : State) :
    (shadowInstalled s).segment = s.segment ∧ (shadowInstalled s).time = s.time ∧
    (shadowInstalled s).pool = s.pool ∧ (shadowInstalled s).engine = s.engine ∧
    (shadowInstalled s).monitor = s.monitor ∧ (shadowInstalled s).trunk = s.trunk ∧
    (shadowInstalled s).status = (accountLeftovers s).status ∧
    (shadowInstalled s).notices = (accountLeftovers s).notices := by
  simp [shadowInstalled]

theorem shadowInstalled_config (s : State) :
    (shadowInstalled s).config =
      { s.config with active := s.config.shadow, generation := nextGeneration s.config.generation } := by
  simp [shadowInstalled, installShadow]

theorem shadowInstalled_calendar (s : State) :
    (shadowInstalled s).calendar =
      { s.calendar with
        cells := (accountLeftovers s).calendar.cells, dueList := [], counter := s.calendar.counter + 1#32 } := by
  simp [shadowInstalled, countCycle, accountLeftovers_calendar]

theorem nodesUpdated_time (s : State) : (nodesUpdated s).time = s.time := by
  simp [nodesUpdated]

/-- The requests, the probes and the counters through the presence updates of a commit (R64). -/
theorem nodesLeft_nodesUpdated {s : State} (hw : WaitsUnsent s) :
    NodesLeft ((List.finRange 30).filter (nodeRemoved s.config.active s.config.shadow)) (shadowInstalled s)
      (nodesUpdated s) := by
  obtain ⟨-, -, hpool, -⟩ := shadowInstalled_keeps s
  have hw' : WaitsUnsent (shadowInstalled s) := by
    unfold WaitsUnsent slotHolds
    rw [hpool]
    exact hw
  have h := nodesLeft_updateNodes hw' s.config.active
  rw [shadowInstalled_config] at h
  exact h

/-- The deferred reply to the COMMIT takes the place that was reserved for it (R104, R122). -/
theorem commitAnswered_trunk (tag : Tag) (s : State) :
    (commitAnswered tag s).trunk =
      { s.trunk with
        upstream :=
          s.trunk.upstream ++
            [{ item :=
                .immediate
                  { tag := BitVec.ofNat 8 tag.val, node := 0#8, status := .ok, detail := 0#8, source := .controller
                    stamp := s.time.clock, body := [.raw (be32 s.config.generation)] }
               frame := none }] } := rfl

theorem commitAnswered_counter (tag : Tag) (c : Counter) (s : State) :
    (commitAnswered tag s).counter c = if c = .immediateReplies then s.counter c + 1#32 else s.counter c :=
  counter_bump .immediateReplies c _

section
variable {id : Byte} {tag : Tag} {s : State}

theorem boundary_of_pending (h : s.config.session = .commitPending id tag) :
    boundary s =
      formDue
        (scheduleBoundary
          (raise .configApplied none ((nextGeneration s.config.generation).setWidth 16)
            (commitAnswered tag (rebuildMirror s.config.active (nodesUpdated s))))) := by
  have hconfig : (countCycle (accountLeftovers s)).config = s.config := by simp
  have hpending : applyPending (countCycle (accountLeftovers s)) =
      applyCommit tag (countCycle (accountLeftovers s)) := by
    unfold applyPending
    rw [hconfig, h]
  have hgeneration : (installShadow (countCycle (accountLeftovers s))).config.generation =
      nextGeneration s.config.generation := congrArg (fun c : ConfigUnit => nextGeneration c.generation) hconfig
  rw [boundary, hpending, applyCommit_eq, hgeneration, hconfig]
  rfl

theorem boundary_keeps_of_pending (h : s.config.session = .commitPending id tag) :
    (boundary s).engine = s.engine ∧ (boundary s).time = s.time ∧ (boundary s).pool = (nodesUpdated s).pool ∧
    (boundary s).monitor = (nodesUpdated s).monitor := by
  rw [boundary_of_pending h]
  simp [commitAnswered, nodesUpdated, shadowInstalled]

theorem boundary_config_of_pending (h : s.config.session = .commitPending id tag) :
    (boundary s).config =
      { active := s.config.shadow, shadow := s.config.shadow, session := .closed, lastId := s.config.lastId
        generation := nextGeneration s.config.generation } := by
  rw [boundary_of_pending h]
  simp [commitAnswered, nodesUpdated, shadowInstalled_config]

theorem boundary_trunk_of_pending (h : s.config.session = .commitPending id tag) :
    (boundary s).trunk =
      { (nodesUpdated s).trunk with
        upstream :=
          (nodesUpdated s).trunk.upstream ++
            [{ item :=
                .immediate
                  { tag := BitVec.ofNat 8 tag.val, node := 0#8, status := .ok, detail := 0#8, source := .controller
                    stamp := s.time.clock, body := [.raw (be32 (nextGeneration s.config.generation))] }
               frame := none }] } := by
  have htrunk : (boundary s).trunk =
      (commitAnswered tag (rebuildMirror s.config.active (nodesUpdated s))).trunk := by
    rw [boundary_of_pending h]
    simp
  have hgeneration : (nodesUpdated s).config.generation = nextGeneration s.config.generation := by
    simp [nodesUpdated, shadowInstalled_config]
  rw [htrunk, commitAnswered_trunk, ← hgeneration, ← nodesUpdated_time s]
  simp only [rebuildMirror_keeps]

theorem nodesUpdated_counter (hw : WaitsUnsent s) (c : Counter) :
    (nodesUpdated s).counter c = (accountLeftovers s).counter c := by
  have hstatus : (shadowInstalled s).status = (accountLeftovers s).status := by simp
  rw [State.counter, State.counter, (nodesLeft_nodesUpdated hw).counters, hstatus]

theorem boundary_counter_of_pending (h : s.config.session = .commitPending id tag) (hw : WaitsUnsent s) (c : Counter) :
    (boundary s).counter c =
      if c = .pollsMissed then s.counter c + BitVec.ofNat 32 s.calendar.dueList.length
      else if c = .immediateReplies then s.counter c + 1#32
      else s.counter c := by
  have hstatus : (boundary s).status =
      (commitAnswered tag (rebuildMirror s.config.active (nodesUpdated s))).status := by
    rw [boundary_of_pending h]
    simp
  have hrebuilt : (rebuildMirror s.config.active (nodesUpdated s)).counter c = (nodesUpdated s).counter c := by
    simp [State.counter]
  rw [State.counter, hstatus, ← State.counter, commitAnswered_counter, hrebuilt, nodesUpdated_counter hw,
    accountLeftovers_counter]
  by_cases hc : c = .pollsMissed
  · simp [hc]
  · simp [hc]

theorem boundary_notices_of_pending (h : s.config.session = .commitPending id tag) (hr : s.repeater = false) :
    (boundary s).notices =
      NoticeQueue.takeRaise .configApplied none ((nextGeneration s.config.generation).setWidth 16) s.time.clock
        (if s.calendar.dueList = [] then s.notices
        else
          s.notices.takeRaise .cycleOverrun none (BitVec.ofNat 16 s.calendar.dueList.length) s.time.clock) := by
  have hrepeater : (commitAnswered tag (rebuildMirror s.config.active (nodesUpdated s))).repeater = false := by
    simpa [State.repeater, commitAnswered, nodesUpdated, shadowInstalled] using hr
  rw [boundary_of_pending h, raise_of_serving hrepeater, ← accountLeftovers_notices hr]
  simp [commitAnswered, nodesUpdated, shadowInstalled]

/-- The last two steps of the boundary act on a calendar in which the cycle is counted, the list empty and the mirror rebuilt
(R69). -/
theorem boundary_schedules (h : s.config.session = .commitPending id tag) (hw : WaitsUnsent s) :
    ∃ v, boundary s = formDue (scheduleBoundary v) ∧ v.engine = s.engine ∧ v.config.active = s.config.shadow ∧
      v.calendar =
        { s.calendar with
          counter := s.calendar.counter + 1#32, dueList := []
          cells := (rebuildMirror s.config.active (nodesUpdated s)).calendar.cells } := by
  have hnodes : (nodesUpdated s).calendar = _ :=
    (nodesLeft_nodesUpdated hw).flushed.calendar.trans (shadowInstalled_calendar s)
  refine ⟨_, boundary_of_pending h, ?_, ?_, ?_⟩
  · simp [commitAnswered, nodesUpdated, shadowInstalled]
  · simp [commitAnswered, nodesUpdated, shadowInstalled_config]
  · have hrebuilt : ∀ (old : Tables) (v : State), (rebuildMirror old v).calendar =
        { v.calendar with cells := (rebuildMirror old v).calendar.cells } := fun _ _ => rfl
    rw [(raise_keeps ..).2.2.2.2.2.2.2.2.1, (commitAnswered_keeps ..).2.2.1, hrebuilt, hnodes]

theorem boundary_calendar_of_pending (h : s.config.session = .commitPending id tag) (hw : WaitsUnsent s) :
    (boundary s).calendar =
      { counter := s.calendar.counter + 1#32
        nextBoundary := s.calendar.nextBoundary + ms s.config.shadow.segment.baseCycle
        baseCycle := s.config.shadow.segment.baseCycle
        dueList := (boundary s).calendar.dueList
        cells := (rebuildMirror s.config.active (nodesUpdated s)).calendar.cells } := by
  obtain ⟨v, hv, -, hactive, hcalendar⟩ := boundary_schedules h hw
  rw [hv]
  simp only [formDue, scheduleBoundary, hactive, hcalendar]

/-- The due list is formed from the new table and the records that the commit leaves (R71). -/
theorem boundary_dueList_of_pending (h : s.config.session = .commitPending id tag) (hw : WaitsUnsent s) :
    (boundary s).calendar.dueList =
      if s.engine.port = .jammed ∨ s.engine.port = .isolated then []
      else
        (List.finRange 64).filter fun i =>
          (s.config.shadow.poll[i]).used &&
            decide
              ((s.calendar.counter + 1#32).toNat % (s.config.shadow.poll[i]).period =
                (s.config.shadow.poll[i]).phase) &&
            (healthOf (boundary s) (s.config.shadow.poll[i]).node).inService := by
  obtain ⟨v, hv, hengine, hactive, hcalendar⟩ := boundary_schedules h hw
  have hhealth : ∀ a, healthOf (formDue (scheduleBoundary v)) a = healthOf (scheduleBoundary v) a :=
    healthOf_congr (formDue_keeps _).2.2.2.2.2.2.2.1
  have hlist : (formDue (scheduleBoundary v)).calendar.dueList = formDueList (scheduleBoundary v) := rfl
  have hcounter : (scheduleBoundary v).calendar.counter = s.calendar.counter + 1#32 :=
    congrArg Calendar.counter hcalendar
  rw [hv, hlist, formDueList]
  simp only [hhealth, scheduleBoundary_keeps, hengine, hactive, hcounter]

/-! ### What the presence updates leave to the reply and the mirror (R64, R122) -/

/-- The requests that wait for a node made ABSENT are those of the nodes removed (R64). -/
theorem addressedIn_removed (old new : Tables) :
    addressedIn ((List.finRange 30).filter (nodeRemoved old new)) = slotRemoved old new := by
  funext slot
  simp [addressedIn, slotRemoved]

theorem boundary_flushed_of_pending (h : s.config.session = .commitPending id tag) (hw : WaitsUnsent s) :
    (∀ i : SlotIx, (boundary s).pool.slots[i] =
      if i ∈ queueOrder s.pool then
        (s.pool.slots[i]).map fun slot =>
          if slotRemoved s.config.active s.config.shadow slot = true then
            slot.finished .nodeAbsent 0#8 [] s.time.clock
          else slot
      else s.pool.slots[i]) ∧
    ∀ cls, (boundary s).pool.queueOf cls =
      (s.pool.queueOf cls).filter fun i =>
        !(s.pool.slots[i]).any (slotRemoved s.config.active s.config.shadow) := by
  obtain ⟨-, htime, hpool, -⟩ := shadowInstalled_keeps s
  obtain ⟨hslots, hqueues, -, -⟩ := (nodesLeft_nodesUpdated hw).flushed
  rw [(boundary_keeps_of_pending h).2.2.1]
  rw [addressedIn_removed] at hslots hqueues
  simp only [hpool, htime] at hslots hqueues
  exact ⟨hslots, hqueues⟩

/-- The replies of the flushed requests stand before the COMMIT's (R122). -/
theorem nodesUpdated_trunk (hw : WaitsUnsent s) :
    (nodesUpdated s).trunk =
      { s.trunk with
        upstream :=
          s.trunk.upstream ++ repliesTo ((List.finRange 30).filter (nodeRemoved s.config.active s.config.shadow)) s } := by
  obtain ⟨-, -, hpool, -, -, htrunk, -⟩ := shadowInstalled_keeps s
  rw [(nodesLeft_nodesUpdated hw).trunk, htrunk, repliesTo, hpool]
  rfl

theorem nodesUpdated_health (n : NodeIx) (s : State) :
    (nodesUpdated s).monitor.health[n] =
      (s.monitor.health[n]).afterCommit (s.config.active.node[n]).present (s.config.shadow.node[n]).present := by
  have hactive : (shadowInstalled s).config.active = s.config.shadow := by rw [shadowInstalled_config]
  have hmonitor : (shadowInstalled s).monitor = s.monitor := by simp
  rw [nodesUpdated, updateNodes_health, hactive, hmonitor]

theorem nodesUpdated_probeList (hw : WaitsUnsent s) :
    (nodesUpdated s).monitor.probeList =
      s.monitor.probeList.filter (fun n => !nodeRemoved s.config.active s.config.shadow n) := by
  rw [(nodesLeft_nodesUpdated hw).probeList]
  simp

theorem nodesUpdated_cells (hw : WaitsUnsent s) (hl : s.calendar.dueList.Nodup) (k : CellIx) :
    (nodesUpdated s).calendar.cells[k] =
      if k ∈ s.calendar.dueList then (s.calendar.cells[k]).missed else s.calendar.cells[k] := by
  rw [(nodesLeft_nodesUpdated hw).flushed.calendar, shadowInstalled_calendar]
  exact accountLeftovers_cells hl k

end

theorem boundaryReached_of_due {s : State} (h : s.calendar.nextBoundary ≤ s.time.clock) :
    boundaryReached s = settle (boundary s) :=
  if_pos (decide_eq_true h)

/-- Settles O50. -/
theorem boundaryAppliesPendingCommit : Obligations.BoundaryAppliesPendingCommit := by
  refine ⟨fun us id tag g now s hh hr hp hm hses hnow hdue hg => ?_, fun old j s h => ?_,
    fun old j k e s he hu hk => ⟨fun hf => ?_, fun stamp hf hs => ?_⟩, fun b key k h => ?_⟩
  · subst hnow hg
    have hw : WaitsUnsent (advance us s) := hp.1.waitsUnsent
    obtain ⟨hheld, -⟩ := (monitorConsistent_iff (advance us s)).1 hm
    obtain ⟨hnodup, -⟩ := hheld.due
    have happlied : (advance us s).config.session = .commitPending id tag := hses
    obtain ⟨hengine, htime, -, hmonitor⟩ := boundary_keeps_of_pending happlied
    obtain ⟨hslots, hqueues⟩ := boundary_flushed_of_pending happlied hw
    have hcalendar := boundary_calendar_of_pending happlied hw
    refine ⟨boundary (advance us s), nodesUpdated (advance us s), ?_, boundary_config_of_pending happlied, fun n => ?_,
      ?_, hheld.boundary.records.indicator, hslots, hqueues, ?_, fun k => ?_, ?_, ?_, ?_, ?_, ?_, ?_,
      boundary_dueList_of_pending happlied hw, ⟨_, rfl, boundary_notices_of_pending happlied hr⟩,
      boundary_counter_of_pending happlied hw, hengine, htime⟩
    · change Host.Outcome.next (running us boundaryReached s) = _
      rw [running_of_not_held hh, boundaryReached_of_due (s := advance us s) hdue]
    · rw [hmonitor]
      exact nodesUpdated_health n (advance us s)
    · rw [hmonitor]
      exact nodesUpdated_probeList hw
    · rw [boundary_trunk_of_pending happlied, nodesUpdated_trunk hw]
      rfl
    · exact nodesUpdated_cells hw hnodup k
    · simp [nodesUpdated, shadowInstalled_config]
    · exact congrArg TimeBase.clock (nodesUpdated_time (advance us s))
    · rw [hcalendar]
      rfl
    · rw [hcalendar]
      rfl
    · rw [hcalendar]
      rfl
    · rw [hcalendar]
      rfl
  · rw [rebuildMirror_cells, carriedCell_new h]
    exact recomputed_of_not_fresh (by simp [Cell.cleared]) _ _ _
  · rw [rebuildMirror_cells, he, carriedCell_carried hu hk, recomputed_of_not_fresh hf]
  · rw [rebuildMirror_cells, he, carriedCell_carried hu hk, recomputed_of_fresh hf hs]
    rfl
  · obtain ⟨hused, rfl⟩ := entryOfKey_spec h
    exact ⟨hused, rfl, rfl, rfl, rfl⟩

end Sys2Proof.Machine
end

section
/-! PROOF. A base-cycle boundary with no commit pending (R69, R70, R71). -/

namespace Sys2Proof.Machine

/-- Outside the list of leftovers no cell changes, whatever the list repeats (R70). -/
theorem missPolls_cells_of_notMem {l : List CellIx} {k : CellIx} (h : k ∉ l) (s : State) :
    (missPolls l s).calendar.cells[k] = s.calendar.cells[k] := by
  induction l generalizing s with
  | nil => rfl
  | cons i l ih =>
    obtain ⟨hk, hl⟩ := List.ne_and_not_mem_of_not_mem_cons h
    rw [missPolls_cons, ih hl, (bump_keeps _ _).2.2.2.2.2.2.2.1, modifyCell_cells, if_neg hk]

theorem accountLeftovers_cells_of_notMem {s : State} {k : CellIx} (h : k ∉ s.calendar.dueList) :
    (accountLeftovers s).calendar.cells[k] = s.calendar.cells[k] := by
  rw [accountLeftovers_calendar]
  exact missPolls_cells_of_notMem h s

theorem applyPending_of_notHeld {s : State} (h : s.config.session.heldTag = none) : applyPending s = s := by
  unfold applyPending
  cases hs : s.config.session with
  | closed => rfl
  | opened id expiry => rfl
  | commitPending id tag => simp [hs, Session.heldTag] at h

section
variable {s : State}

/-- With no COMMIT pending the third step of a boundary does nothing (R69). -/
theorem boundary_of_notPending (h : s.config.session.heldTag = none) :
    boundary s = formDue (scheduleBoundary (countCycle (accountLeftovers s))) := by
  rw [boundary, applyPending_of_notHeld (by simpa using h)]

theorem boundary_keeps_of_notPending (h : s.config.session.heldTag = none) :
    (boundary s).pool = s.pool ∧ (boundary s).engine = s.engine ∧ (boundary s).monitor = s.monitor ∧
    (boundary s).config = s.config ∧ (boundary s).trunk = s.trunk ∧ (boundary s).time = s.time ∧
    (boundary s).status = (accountLeftovers s).status ∧ (boundary s).notices = (accountLeftovers s).notices := by
  rw [boundary_of_notPending h]
  simp

theorem boundary_calendar_of_notPending (h : s.config.session.heldTag = none) :
    (boundary s).calendar =
      { counter := s.calendar.counter + 1#32
        nextBoundary := s.calendar.nextBoundary + ms s.config.active.segment.baseCycle
        baseCycle := s.config.active.segment.baseCycle
        dueList := (boundary s).calendar.dueList
        cells := (accountLeftovers s).calendar.cells } := by
  have hconfig : (accountLeftovers s).config = s.config := by simp
  rw [boundary_of_notPending h]
  simp only [formDue, scheduleBoundary, countCycle, hconfig]
  rw [accountLeftovers_calendar]

/-- The due list is formed from the table in force and the counter of the new cycle (R71). -/
theorem boundary_dueList_of_notPending (h : s.config.session.heldTag = none) :
    (boundary s).calendar.dueList =
      if s.engine.port = .jammed ∨ s.engine.port = .isolated then []
      else
        (List.finRange 64).filter fun i =>
          (s.config.active.poll[i]).used &&
            decide
              ((s.calendar.counter + 1#32).toNat % (s.config.active.poll[i]).period =
                (s.config.active.poll[i]).phase) &&
            (healthOf s (s.config.active.poll[i]).node).inService := by
  have hhealth : ∀ a, healthOf (scheduleBoundary (countCycle (accountLeftovers s))) a = healthOf s a :=
    healthOf_congr (by simp)
  have hcounter : (scheduleBoundary (countCycle (accountLeftovers s))).calendar.counter = s.calendar.counter + 1#32 := by
    simp only [scheduleBoundary, countCycle, accountLeftovers_calendar]
  have hlist : (boundary s).calendar.dueList =
      formDueList (scheduleBoundary (countCycle (accountLeftovers s))) := by
    rw [boundary_of_notPending h]
    rfl
  rw [hlist, formDueList]
  simp [hhealth, hcounter]

end

theorem boundaryReached_of_early {s : State} (h : s.time.clock < s.calendar.nextBoundary) : boundaryReached s = s :=
  if_neg (by simpa [reached] using h)

/-- Out of reset, BASE_CYCLE_BOUNDARY is the boundary's event at the clock of the command (R69). -/
theorem exec_baseCycleBoundary {s : State} (h : s.held = none) (us : Nat) :
    exec (.baseCycleBoundary us) s = .next (boundaryReached (advance us s)) :=
  congrArg Host.Outcome.next (running_of_not_held h us boundaryReached)

/-- Settles O49: with no COMMIT pending a boundary is its other four steps, and each field comes from the one that writes
it. -/
theorem boundaryAccountsLeftoversAndFormsDueList : Obligations.BoundaryAccountsLeftoversAndFormsDueList := by
  refine ⟨fun us s hh hr hses hdue => ?_, fun us s hh hearly => ?_⟩
  · have hnone : (advance us s).config.session.heldTag = none := hses
    obtain ⟨hpool, hengine, hmonitor, hconfig, htrunk, htime, hstatus, hnotices⟩ := boundary_keeps_of_notPending hnone
    have hcalendar := boundary_calendar_of_notPending hnone
    have hcells := congrArg Calendar.cells hcalendar
    refine ⟨boundary (advance us s), ?_, congrArg Calendar.counter hcalendar, congrArg Calendar.baseCycle hcalendar,
      congrArg Calendar.nextBoundary hcalendar, boundary_dueList_of_notPending hnone, fun i hi => ?_, fun i hi hl => ?_,
      fun c => ?_, ?_, hpool, hengine, hmonitor, hconfig, htrunk, htime⟩
    · rw [exec_baseCycleBoundary hh, boundaryReached_of_due (s := advance us s) hdue]
    · rw [hcells]
      exact accountLeftovers_cells_of_notMem (s := advance us s) hi
    · rw [hcells]
      exact (accountLeftovers_cells (s := advance us s) hl i).trans (if_pos hi)
    · rw [State.counter, hstatus]
      exact accountLeftovers_counter c (advance us s)
    · rw [hnotices]
      exact accountLeftovers_notices (s := advance us s) hr
  · rw [exec_baseCycleBoundary hh, boundaryReached_of_early (s := advance us s) hearly]

end Sys2Proof.Machine
end

section
/-! PROOF. A poll's outcome at the cell of its key (R74, R75, R76, R77). -/

namespace Sys2Proof.Machine

/-- The cell of a poll's entry after the poll's outcome (R75, R76, R77). -/
def Cell.polled (result : DropResult) (now limit : Stamp) (c : Cell) : Cell :=
  match result with
  | .ok data => c.refresh data now limit
  | r => c.fail (failureOf r)

/-- The outcome of a poll whose entry has left the table, or whose node is out of service, is counted and dropped (R74). -/
theorem pollOutcome_discarded {key : PollKey} {s : State}
    (h : entryOfKey s.config.active key = none ∨ healthOf s key.node = .disabled ∨ healthOf s key.node = .absent)
    (result : DropResult) : pollOutcome key result s = bump .pollsDone s := by
  have hhealth : healthOf (bump .pollsDone s) key.node = healthOf s key.node := rfl
  simp only [pollOutcome, (bump_keeps _ _).2.2.2.2.2.2.2.2.1, hhealth]
  cases he : entryOfKey s.config.active key with
  | none => rfl
  | some i => exact if_pos (h.resolve_left (by simp [he]))

/-- Otherwise it is counted and changes one cell, that of the entry (R74). -/
theorem pollOutcome_applied {key : PollKey} {i : CellIx} {s : State} (h : entryOfKey s.config.active key = some i)
    (hd : healthOf s key.node ≠ .disabled) (ha : healthOf s key.node ≠ .absent) (result : DropResult) :
    pollOutcome key result s =
      modifyCell i
        (Cell.polled result s.time.clock (s.time.clock + ageLimit s.config.active.poll[i] s.calendar.baseCycle))
        (bump .pollsDone s) := by
  have hhealth : healthOf (bump .pollsDone s) key.node = healthOf s key.node := rfl
  simp only [pollOutcome, (bump_keeps _ _).2.2.2.2.2.2.2.2.1, h, hhealth, hd, ha, or_self, if_false]
  cases result <;> rfl

theorem pollOutcome_status (key : PollKey) (result : DropResult) (s : State) :
    (pollOutcome key result s).status = (bump .pollsDone s).status := by
  by_cases h : entryOfKey s.config.active key = none ∨ healthOf s key.node = .disabled ∨ healthOf s key.node = .absent
  · rw [pollOutcome_discarded h]
  · obtain ⟨he, hd, ha⟩ : ¬ _ ∧ ¬ _ ∧ ¬ _ := by simpa only [not_or] using h
    obtain ⟨i, hi⟩ := Option.ne_none_iff_exists'.1 he
    rw [pollOutcome_applied hi hd ha]
    rfl

/-- Settles O46: the outcome is dropped or applied to one cell, and counted either way. -/
theorem pollOutcomeReachesCellOfItsKey : Obligations.PollOutcomeReachesCellOfItsKey := by
  refine fun key result s => ⟨fun c => ?_, fun h => ?_, fun i e c hi hd ha he hc => ?_⟩
  · rw [State.counter, pollOutcome_status]
    exact counter_bump .pollsDone c s
  · rw [pollOutcome_discarded h]
    rfl
  · subst he hc
    rw [pollOutcome_applied hi hd ha]
    cases result <;> rfl

end Sys2Proof.Machine
end

section
/-! PROOF. The mirror's choice of a cell for a READ, and the READ that it serves (R80, R81, R99). -/

namespace Sys2Proof.Machine

/-- What R80 asks of a cell that serves a READ. -/
theorem canServe_iff {s : State} {w : PollKey} {maxAge : Nat} {i : CellIx} :
    canServe s w maxAge i = true ↔
      (s.calendar.cells[i]).state = .fresh ∧ (s.config.active.poll[i]).node = w.node ∧
        (s.config.active.poll[i]).space = w.space ∧
        (s.config.active.poll[i]).address.toNat ≤ w.address.toNat ∧
        w.address.toNat + w.count ≤ (s.config.active.poll[i]).address.toNat + (s.config.active.poll[i]).count ∧
        ∃ stamp, (s.calendar.cells[i]).updateStamp = some stamp ∧ (s.time.clock - stamp).toNat ≤ maxAge * 1000 := by
  simp only [canServe, Bool.and_eq_true, beq_iff_eq, decide_eq_true_eq, Option.any_eq_true, and_assoc]
  rfl

/-- The serving cell is the lowest that can serve (R80). -/
theorem servingCell_eq_some_iff {s : State} {w : PollKey} {maxAge : Nat} {i : CellIx} :
    servingCell s w maxAge = some i ↔ canServe s w maxAge i = true ∧ ∀ j, j < i → canServe s w maxAge j = false := by
  rw [servingCell, ← Fin.find?_eq_find?_finRange, Fin.find?_eq_some_iff]

theorem servingCell_isSome_iff {s : State} {w : PollKey} {maxAge : Nat} :
    (servingCell s w maxAge).isSome = true ↔ ∃ i, canServe s w maxAge i = true := by
  rw [servingCell, ← Fin.find?_eq_find?_finRange, Fin.isSome_find?_iff]

theorem mirrorOffer_read {f : RequestFrame} (h : hasMaxAge f = true) (s : State) :
    mirrorOffer .read f s = servingCell s (requestRange f) (maxAgeOf f) :=
  if_pos ⟨rfl, h⟩

theorem serveRead_eq {i : CellIx} {words : List Word} {stamp : Stamp} {s : State}
    (hv : (s.calendar.cells[i]).values = some words) (hu : (s.calendar.cells[i]).updateStamp = some stamp)
    (f : RequestFrame) :
    serveRead f i s =
      bump .mirrorServed
        (placeReply
          { tag := f.tag, node := f.node, status := .ok, detail := 0#8
            source := .mirror (BitVec.ofNat 16 (microsBetween stamp s.time.clock / 1000)), stamp := stamp
            body :=
              [.raw
                (bytesOf
                  ((words.drop (f.address.toNat - (s.config.active.poll[i]).address.toNat)).take (countOf f)))] }
          s) := by
  simp only [serveRead, hv, hu, Option.getD_some]

/-- Settles O19: the search finds the lowest cell that can serve, and Intake answers from it before it looks at the port or
the node. -/
theorem readIsServedFromLowestFreshCell : Obligations.ReadIsServedFromLowestFreshCell := by
  refine ⟨⟨fun s w maxAge i h => ?_, fun s w maxAge i stamp hf hn hs hlo hhi hu ha => ?_⟩,
    fun cls i words stamp t f s hs hp hformed hacc hmax hserve hv hu => ?_⟩
  · obtain ⟨hcan, hlowest⟩ := servingCell_eq_some_iff.1 h
    obtain ⟨hf, hn, hs, hlo, hhi, hage⟩ := canServe_iff.1 hcan
    exact ⟨hf, hn, hs, hlo, hhi, hage, hlowest⟩
  · exact servingCell_isSome_iff.2 ⟨i, canServe_iff.2 ⟨hf, hn, hs, hlo, hhi, stamp, hu, ha⟩⟩
  · obtain ⟨hform, htag⟩ := hformed
    have hoffer : mirrorOffer .read f (s.atFrame t) = some i := (mirrorOffer_read hmax _).trans hserve
    have hserved := serveRead_eq (s := s.atFrame t) hv hu f
    refine (exec_requestInstr .read t f s).trans ?_
    rw [takeDirect_of_serving _ hs (requestFormed_length hform _)]
    simp only [intakeRequest, hform, tagInUse_atFrame, htag, atFrame_keeps, hacc, hoffer, placesFull_atFrame, hp,
      hserved, Bool.false_eq_true, if_false]
    rfl

end Sys2Proof.Machine
end

section
/-! PROOF. The access search and the access check (R94 to R97). -/

namespace Sys2Proof.Machine

/-- What R95 asks of an ACCESS entry that matches a request. -/
theorem accessMatches_iff {e : AccessEntry} {w : PollKey} :
    accessMatches e w = true ↔
      e.used = true ∧ (e.nodeFirst.val ≤ w.node.val ∧ w.node.val ≤ e.nodeLast.val) ∧
        e.spaces.getLsbD w.space.val = true ∧
        (e.addressFirst.toNat ≤ w.address.toNat ∧ w.address.toNat + w.count - 1 ≤ e.addressLast.toNat) := by
  simp only [accessMatches, Bool.and_eq_true, decide_eq_true_eq, Fin.le_def, and_assoc]

/-- The search stops at the first entry that matches (R95). -/
theorem decidingEntry_eq_some_iff {b : Tables} {w : PollKey} {i : Fin 48} :
    decidingEntry b w = some i ↔
      accessMatches b.access[i] w = true ∧ ∀ j : Fin 48, j < i → accessMatches b.access[j] w = false := by
  rw [decidingEntry, ← Fin.find?_eq_find?_finRange, Fin.find?_eq_some_iff]

theorem decidingEntry_eq_none_iff {b : Tables} {w : PollKey} :
    decidingEntry b w = none ↔ ∀ i : Fin 48, accessMatches b.access[i] w = false := by
  rw [decidingEntry, ← Fin.find?_eq_find?_finRange, Fin.find?_eq_none_iff]

/-- An entry does not allow an op whose own bit is clear (R94). -/
theorem allows_eq_false_iff {e : AccessEntry} {op : Op} :
    e.allows op = false ↔ (op = .read ∧ e.allowRead = false) ∨ (op = .write ∧ e.allowWrite = false) := by
  cases op <;> simp [AccessEntry.allows]

theorem accessCheck_of_none {b : Tables} {w : PollKey} (h : decidingEntry b w = none) (op : Op) :
    accessCheck b op w = .error (.noMatch, 255) := by
  rw [accessCheck, h]

/-- The rows of R96 for a deciding entry, in their order. -/
theorem accessCheck_of_some {b : Tables} {w : PollKey} {i : Fin 48} (h : decidingEntry b w = some i) (op : Op) :
    accessCheck b op w =
      if b.access[i].verdict = .deny then .error (.denied, i.val)
      else if (op = .read ∧ b.access[i].allowRead = false) ∨ (op = .write ∧ b.access[i].allowWrite = false) then
        .error (.op, i.val)
      else if b.access[i].maxCount < w.count then .error (.count, i.val)
      else .ok b.access[i].cls := by
  rw [accessCheck, h]
  simp only [allows_eq_false_iff]

/-- Settles O18: the search is the library's first find over the 48 entries, and R96's table is read off its result. -/
theorem accessSearchAndCheckFollowFirstMatch : Obligations.AccessSearchAndCheckFollowFirstMatch :=
  ⟨⟨fun _ _ _ => accessMatches_iff, fun _ _ _ => decidingEntry_eq_some_iff, fun _ _ => decidingEntry_eq_none_iff⟩,
    fun _ op _ h => accessCheck_of_none h op, fun _ op _ _ h => accessCheck_of_some h op⟩

end Sys2Proof.Machine
end

section
/-! PROOF. Intake step by step: the refusals of READ and WRITE, and the checks of MANAGE (R4, R90 to R93, R97, R99 to
R103, R134, R138). -/

namespace Sys2Proof.Machine

/-! ### The form check and the tag map (R4, R92) -/

/-- MaxAge is zero where both its bytes are. -/
theorem word16_toNat_eq_zero_iff (hi lo : Byte) : (word16 hi lo).toNat = 0 ↔ hi = 0#8 ∧ lo = 0#8 := by
  have hhi := hi.isLt
  have hlo := lo.isLt
  rw [← BitVec.toNat_inj, ← BitVec.toNat_inj, word16, BitVec.toNat_ofNat, BitVec.toNat_ofNat,
    Nat.mod_eq_of_lt (by omega)]
  omega

/-- The bytes after the address, by op and flag bit 0 (R92). -/
theorem impliedTail_eq (op : Op) (f : RequestFrame) :
    impliedTail op f =
      if op = .write then 2 * (f.spaceCount.toNat % 64 + 1) else if f.flags.getLsbD 0 then 2 else 0 := by
  cases op <;> rfl

/-- The form check of READ and WRITE with the detail codes of R134. -/
theorem requestFormFault_code (op : Op) (f : RequestFrame) :
    (requestFormFault op f).map BadRequest.code =
      if f.tail.length ≠
          (if op = .write then 2 * (f.spaceCount.toNat % 64 + 1) else if f.flags.getLsbD 0 then 2 else 0) then
        some 1#8
      else if 64 ≤ f.tag.toNat then some 2#8
      else if f.flags.getLsbD 2 = true ∨ f.flags.getLsbD 3 = true then some 3#8
      else if f.node = 0#8 ∨ 32 ≤ f.node.toNat then some 4#8
      else if f.node = 31#8 ∧ op = .read then some 5#8
      else if 32 < f.spaceCount.toNat % 64 + 1 then some 6#8
      else if 65536 < f.address.toNat + (f.spaceCount.toNat % 64 + 1) then some 7#8
      else if f.flags.getLsbD 0 = true ∧ (op = .write ∨ byteAt f.tail 0 = 0#8 ∧ byteAt f.tail 1 = 0#8) then
        some 8#8
      else if f.flags.getLsbD 1 = true ∧ f.flags.getLsbD 0 = false then some 9#8
      else none := by
  have htag : 63 < f.tag.toNat ↔ 64 ≤ f.tag.toNat := Nat.lt_iff_add_one_le
  have hnode : 31 < f.node.toNat ↔ 32 ≤ f.node.toNat := Nat.lt_iff_add_one_le
  have hrange : 65535 < f.address.toNat + (f.spaceCount.toNat % 64 + 1) - 1 ↔
      65536 < f.address.toNat + (f.spaceCount.toNat % 64 + 1) := by
    omega
  have hage : maxAgeOf f = 0 ↔ byteAt f.tail 0 = 0#8 ∧ byteAt f.tail 1 = 0#8 := word16_toNat_eq_zero_iff _ _
  unfold requestFormFault
  simp only [apply_ite (Option.map BadRequest.code), Option.map_some, Option.map_none, BadRequest.code,
    impliedTail_eq, htag, hnode, countOf, hrange, hage, hasMaxAge, mirrorOnly, Bool.or_eq_true, Bool.not_eq_true]

theorem heldTag_eq_some_iff {session : Session} {tag : Tag} :
    session.heldTag = some tag ↔ ∃ id, session = .commitPending id tag := by
  cases session <;> simp [Session.heldTag]

/-- The three holders of a tag (R4). -/
theorem tagInUse_iff (tag : Tag) (s : State) :
    tagInUse s tag = true ↔
      (∃ i : SlotIx, ∃ slot, s.pool.slots[i] = some slot ∧ slot.tag = tag) ∨
        (∃ id, s.config.session = .commitPending id tag) ∨ s.engine.pendingIsolate = some tag := by
  rw [← not_iff_not, Bool.not_eq_true, tagInUse_eq_false, ← heldTag_eq_some_iff]
  simp only [not_or, not_exists, not_and, ne_eq]

/-! ### Refusals by reply, and the limit on them (R89, R90) -/

theorem refuse_of_full {s : State} (h : placesFull s = true) (tag node : Byte) (status : Status) (detail : Byte)
    (effect : State → State) : refuse tag node status detail effect s = discardFrame s :=
  if_pos h

theorem refuse_of_place {s : State} (h : placesFull s = false) (tag node : Byte) (status : Status) (detail : Byte)
    (effect : State → State) :
    refuse tag node status detail effect s = effect (answer tag node status detail [] s) :=
  if_neg (by simp [h])

/-! ### Steps 6 to 8 of R91 (R100, R101) -/

theorem lineRefusal_of_isolated {s : State} (h : s.engine.port = .isolated) (a : NodeAddr) (cls : Class) :
    lineRefusal s a cls = some .isolated := by
  simp [lineRefusal, portRefusal, h]

theorem lineRefusal_of_jammed {s : State} (h : s.engine.port = .jammed) (a : NodeAddr) (cls : Class) :
    lineRefusal s a cls = some .lineFault := by
  simp [lineRefusal, portRefusal, h]

theorem portRefusal_of_inService {s : State} (hi : s.engine.port ≠ .isolated) (hj : s.engine.port ≠ .jammed) :
    portRefusal s = none := by
  unfold portRefusal
  split
  · next h => exact absurd h hi
  · next h => exact absurd h hj
  · rfl

/-- With the port in service, a node out of service is the refusal. -/
theorem lineRefusal_of_node {s : State} {a : NodeAddr} {status : Status} (hi : s.engine.port ≠ .isolated)
    (hj : s.engine.port ≠ .jammed) (h : nodeRefusal s a = some status) (cls : Class) :
    lineRefusal s a cls = some status := by
  simp only [lineRefusal, portRefusal_of_inService hi hj, h]

theorem nodeRefusal_of_served {s : State} {a : NodeAddr} (h : a.val = 31 ∨ (healthOf s a).inService = true) :
    nodeRefusal s a = none := by
  unfold nodeRefusal
  split
  · rfl
  · next h31 =>
    have hs := h.resolve_left h31
    cases hh : healthOf s a <;> simp_all [HealthState.inService]

/-- With the port and the node in service, only a pool without room refuses. -/
theorem lineRefusal_of_noRoom {s : State} {a : NodeAddr} {cls : Class} (hi : s.engine.port ≠ .isolated)
    (hj : s.engine.port ≠ .jammed) (hn : a.val = 31 ∨ (healthOf s a).inService = true) (hr : hasRoom s cls = false) :
    lineRefusal s a cls = some .poolFull := by
  simp only [lineRefusal, portRefusal_of_inService hi hj, nodeRefusal_of_served hn, hr, Bool.false_eq_true, if_false]

/-- A node with a health record is refused by its health state (R100). -/
theorem nodeRefusal_of_ix {s : State} {a : NodeAddr} {n : NodeIx} (h : nodeIx? a = some n) :
    nodeRefusal s a =
      if (s.monitor.health[n]).state = .absent then some .nodeAbsent
      else if (s.monitor.health[n]).state = .disabled then some .nodeDisabled
      else if (s.monitor.health[n]).state = .offline then some .nodeOffline
      else none := by
  have h31 : a.val ≠ 31 := by
    intro ha
    simp [nodeIx?, ha] at h
  have hstate : healthOf s a = (s.monitor.health[n]).state := by simp only [healthOf, h]
  rw [nodeRefusal, if_neg h31, hstate]
  cases (s.monitor.health[n]).state <;> rfl

/-! ### READ and WRITE in Intake (R91) -/

/-- A direct READ or WRITE that port A can take is decided by Intake in the state of its event. -/
theorem exec_request {op : Op} {t : Arrival} {f : RequestFrame} {s : State} (hs : Serving s)
    (hl : (downstreamBytes s.segment (.request op f)).length ≤ 96) :
    exec (requestInstr op t f) s = .next (intakeRequest op f (s.atFrame t)) := by
  rw [exec_requestInstr, takeDirect_of_serving _ hs hl]

/-- Step 1 of R91 refuses. -/
theorem intakeRequest_of_fault {op : Op} {f : RequestFrame} {d : BadRequest} (h : requestFormFault op f = some d)
    (s : State) : intakeRequest op f s = decideA (refuse f.tag f.node .badRequest d.code id s) := by
  rw [intakeRequest, h]

/-- Step 2 of R91 refuses. -/
theorem intakeRequest_of_duplicate {op : Op} {f : RequestFrame} {s : State} (h : requestFormFault op f = none)
    (ht : tagInUse s (tagOf f.tag) = true) :
    intakeRequest op f s = decideA (refuse f.tag f.node .duplicateTag 0#8 id s) := by
  simp only [intakeRequest, h, ht, if_true]

/-- Step 3 of R91 refuses. -/
theorem intakeRequest_of_noAccess {op : Op} {f : RequestFrame} {s : State} {d : AccessRefusal} {index : Nat}
    (h : RequestFormed op f s) (ha : accessCheck s.config.active op (requestRange f) = .error (d, index)) :
    intakeRequest op f s =
      decideA (refuse f.tag f.node .noAccess d.code (raiseRefused (nodeOf f.node) index) s) := by
  obtain ⟨hform, htag⟩ := h
  simp only [intakeRequest, hform, htag, ha, Bool.false_eq_true, if_false]

/-- Step 4 of R91: the mirror serves, in a place of the immediate part. -/
theorem intakeRequest_of_offer {op : Op} {f : RequestFrame} {s : State} {cls : Class} {i : CellIx}
    (h : RequestFormed op f s) (ha : accessCheck s.config.active op (requestRange f) = .ok cls)
    (hm : mirrorOffer op f s = some i) :
    intakeRequest op f s = decideA (if placesFull s then discardFrame s else serveRead f i s) := by
  obtain ⟨hform, htag⟩ := h
  simp only [intakeRequest, hform, htag, ha, hm, Bool.false_eq_true, if_false]

/-- Steps 5 to 9 of R91 are reached. -/
theorem intakeRequest_of_noOffer {op : Op} {f : RequestFrame} {s : State} {cls : Class}
    (h : RequestFormed op f s) (ha : accessCheck s.config.active op (requestRange f) = .ok cls)
    (hm : mirrorOffer op f s = none) : intakeRequest op f s = decideA (admitOrRefuse op f cls s) := by
  obtain ⟨hform, htag⟩ := h
  simp only [intakeRequest, hform, htag, ha, hm, Bool.false_eq_true, if_false]

/-- Step 5 of R91 refuses (R99). -/
theorem admitOrRefuse_of_mirrorOnly {f : RequestFrame} (h : mirrorOnly f = true) (cls : Class) (s : State) :
    admitOrRefuse .read f cls s = refuse f.tag f.node .notMirrored 0#8 id s :=
  if_pos ⟨rfl, h⟩

/-- Steps 6 to 8 of R91 refuse a request that may leave the mirror (R100, R101). -/
theorem admitOrRefuse_of_lineRefusal {op : Op} {f : RequestFrame} {cls : Class} {s : State} {status : Status}
    (hm : op = .read → mirrorOnly f = false) (h : lineRefusal s (nodeOf f.node) cls = some status) :
    admitOrRefuse op f cls s = refuse f.tag f.node status 0#8 id s := by
  have hnot : ¬ (op = .read ∧ mirrorOnly f = true) := fun ⟨hop, hmir⟩ => by simp [hm hop] at hmir
  rw [admitOrRefuse, if_neg hnot, h]

/-- With the immediate part full, any refusal of steps 5 to 8 is a discard (R90). -/
theorem admitOrRefuse_of_full {op : Op} {f : RequestFrame} {cls : Class} {s : State} (hp : placesFull s = true)
    (h : op = .read ∧ mirrorOnly f = true ∨ (lineRefusal s (nodeOf f.node) cls).isSome = true) :
    admitOrRefuse op f cls s = discardFrame s := by
  by_cases hm : op = .read ∧ mirrorOnly f = true
  · rw [admitOrRefuse, if_pos hm, refuse_of_full hp]
  · obtain ⟨status, hstatus⟩ := Option.isSome_iff_exists.1 (h.resolve_left hm)
    rw [admitOrRefuse, if_neg hm, hstatus]
    exact refuse_of_full hp ..

theorem RequestFormed.atFrame {op : Op} {f : RequestFrame} {s : State} (h : RequestFormed op f s) (t : Arrival) :
    RequestFormed op f (s.atFrame t) :=
  h

theorem RequestFormed.length_le {op : Op} {f : RequestFrame} {s : State} (h : RequestFormed op f s) (a : Fin 16) :
    (downstreamBytes a (.request op f)).length ≤ 96 :=
  requestFormed_length h.1 a

/-- A request that passes steps 1 to 5 of R91 and is refused by the port, the node or the pool is answered with that
status. -/
theorem exec_request_of_lineRefusal {op : Op} {cls : Class} {t : Arrival} {f : RequestFrame} {s : State}
    {status : Status} (hs : Serving s) (hp : placesFull s = false) (h : RequestFormed op f s)
    (ha : accessCheck s.config.active op (requestRange f) = .ok cls) (hm : op = .read → mirrorOnly f = false)
    (ho : mirrorOffer op f (s.atFrame t) = none) (hl : lineRefusal s (nodeOf f.node) cls = some status) :
    exec (requestInstr op t f) s = refusedWith t f status 0#8 s := by
  rw [exec_request hs (h.length_le _), intakeRequest_of_noOffer (h.atFrame t) ha ho,
    admitOrRefuse_of_lineRefusal hm ((lineRefusal_atFrame ..).trans hl), refuse_of_place (s := s.atFrame t) hp]
  rfl

/-- Settles O16: each check that fails is one branch of `intakeRequest`, and a place is left for its reply. -/
theorem requestsAreRefusedInOrder : Obligations.RequestsAreRefusedInOrder := by
  refine ⟨requestFormFault_code, tagInUse_iff, fun op d t f s hs hp hl hd => ?_, fun op t f s hs hp hf ht => ?_,
    fun op d index t f s hs hp hf ha => ?_, fun cls t f s hs hp hf ha hm ho => ?_,
    fun op cls t f s hs hp hf ha hm ho => ?_⟩
  · rw [exec_request hs (fits_length hl _), intakeRequest_of_fault hd, refuse_of_place (s := s.atFrame t) hp]
    rfl
  · rw [exec_request hs (requestFormed_length hf _), intakeRequest_of_duplicate (s := s.atFrame t) hf ht,
      refuse_of_place (s := s.atFrame t) hp]
    rfl
  · rw [exec_request hs (hf.length_le _), intakeRequest_of_noAccess (hf.atFrame t) ha,
      refuse_of_place (s := s.atFrame t) hp]
    rfl
  · refine (exec_request (op := .read) hs (hf.length_le _)).trans ?_
    rw [intakeRequest_of_noOffer (hf.atFrame t) ha ho, admitOrRefuse_of_mirrorOnly hm,
      refuse_of_place (s := s.atFrame t) hp]
    rfl
  · have hrefused : ∀ status, lineRefusal s (nodeOf f.node) cls = some status →
        exec (requestInstr op t f) s = refusedWith t f status 0#8 s :=
      fun _ => exec_request_of_lineRefusal hs hp hf ha hm ho
    refine ⟨fun hport => hrefused _ (lineRefusal_of_isolated hport ..),
      fun hport => hrefused _ (lineRefusal_of_jammed hport ..), fun hi hj => ⟨fun n hn => ?_, fun hserved hroom =>
        hrefused _ (lineRefusal_of_noRoom hi hj hserved hroom)⟩⟩
    refine ⟨fun h => ?_, fun h => ?_, fun h => ?_⟩ <;>
      exact hrefused _ (lineRefusal_of_node hi hj (by rw [nodeRefusal_of_ix hn, h]; rfl) cls)

/-! ### MANAGE in Intake (R103) -/

theorem manageChecks_of_full {s : State} (h : placesFull s = true) (f : ManageFrame) (rest : State → State) :
    manageChecks f rest s = decideA (discardFrame s) := by
  rw [manageChecks, if_pos h]

/-- Step 1 of R103 refuses. -/
theorem manageChecks_of_fault {f : ManageFrame} {s : State} {d : BadRequest} (hp : placesFull s = false)
    (hd : manageFormFault f = some d) (rest : State → State) :
    manageChecks f rest s = decideA (answer f.tag f.node .badRequest d.code [] s) := by
  simp only [manageChecks, hp, hd, Bool.false_eq_true, if_false, reply]

/-- Step 2 of R103 refuses. -/
theorem manageChecks_of_duplicate {f : ManageFrame} {s : State} (hp : placesFull s = false)
    (hf : manageFormFault f = none) (ht : tagInUse s (tagOf f.tag) = true) (rest : State → State) :
    manageChecks f rest s = decideA (answer f.tag f.node .duplicateTag 0#8 [] s) := by
  simp only [manageChecks, hp, hf, ht, Bool.false_eq_true, if_false, if_true, reply]

theorem manageChecks_of_passed {f : ManageFrame} {s : State} (hp : placesFull s = false)
    (hf : manageFormFault f = none) (ht : tagInUse s (tagOf f.tag) = false) (rest : State → State) :
    manageChecks f rest s = decideA (rest s) := by
  simp only [manageChecks, hp, hf, ht, Bool.false_eq_true, if_false]

/-- What Intake does with a MANAGE frame that passes steps 1 to 3 of R103. -/
def manageDispatch (code : ManageCode) (t : Arrival) (f : ManageFrame) (s : State) : State :=
  if f.args.length = code.argLength then ownerOf code t f s else badArgument f s

/-- A direct MANAGE frame with a known code goes through R103. -/
theorem exec_manageInstr {code : ManageCode} {t : Arrival} {f : ManageFrame} {s : State} (hs : Serving s)
    (hl : Sys2Proof.Downstream.fits (.manage code.byte f) = true) :
    exec (manageInstr code t f) s = .next (manageChecks f (manageDispatch code t f) (s.atFrame t)) := by
  have hexec : exec (manageInstr code t f) s =
      .next (takeDirect t (.manage code.byte f) (manageChecks f (manageDispatch code t f)) s) := by
    cases code <;> rfl
  rw [hexec, takeDirect_of_serving _ hs (fits_length hl _)]

/-- A direct MANAGE frame with an unknown code goes through steps 1 to 3 of R103. -/
theorem exec_unknownCode {code : Byte} {t : Arrival} {f : ManageFrame} {s : State} (hs : Serving s)
    (hl : Sys2Proof.Downstream.fits (.manage code f) = true) :
    exec (.unknownCode t code f) s =
      .next (manageChecks f (answer f.tag f.node .unknownCode code []) (s.atFrame t)) := by
  change Host.Outcome.next (takeDirect t (.manage code f) _ s) = _
  rw [takeDirect_of_serving _ hs (fits_length hl _)]
  rfl

/-- The form check of MANAGE with the detail codes of R134. -/
theorem manageFormFault_code (f : ManageFrame) :
    (manageFormFault f).map BadRequest.code =
      if f.args.length ≠ f.argLength.toNat then some 1#8
      else if 64 ≤ f.tag.toNat then some 2#8
      else if f.flags ≠ 0#4 then some 3#8
      else if f.node ≠ 0#8 then some 4#8
      else none := by
  have htag : 63 < f.tag.toNat ↔ 64 ≤ f.tag.toNat := Nat.lt_iff_add_one_le
  unfold manageFormFault
  simp only [htag]
  repeat' split
  all_goals rfl

/-- Settles O23: known and unknown codes share the checks of `manageChecks` and differ in what follows them. -/
theorem manageFramesAreCheckedInOrder : Obligations.ManageFramesAreCheckedInOrder := by
  refine ⟨manageFormFault_code, fun code d t f s hs hp hl hd => ?_, fun code t f s hs hp hl hf ht => ?_,
    fun code t f s hs hp hl hf ht ha => ?_, fun d code t f s hs hp hl hd => ?_, fun code t f s hs hp hl hf ht => ?_,
    fun code t f s hs hp hl hf ht => ?_⟩
  · rw [exec_manageInstr hs hl, manageChecks_of_fault (s := s.atFrame t) hp hd]
  · rw [exec_manageInstr hs hl, manageChecks_of_duplicate (s := s.atFrame t) hp hf ht]
  · rw [exec_manageInstr hs hl, manageChecks_of_passed (s := s.atFrame t) hp hf ht, manageDispatch, if_neg ha]
    rfl
  · rw [exec_unknownCode hs hl, manageChecks_of_fault (s := s.atFrame t) hp hd]
  · rw [exec_unknownCode hs hl, manageChecks_of_duplicate (s := s.atFrame t) hp hf ht]
  · rw [exec_unknownCode hs hl, manageChecks_of_passed (s := s.atFrame t) hp hf ht]

/-! ### The immediate part is full (R90) -/

/-- Settles O15: with no place left, each way to an immediate reply ends in a discard. -/
theorem fullImmediatePartDiscards : Obligations.FullImmediatePartDiscards := by
  refine ⟨fun t f s hs hp hl => ?_, fun code t f s hs hp hl => ?_, fun code t f s hs hp hl => ?_,
    fun op d t f s hs hp hl hd => ?_, fun op t f s hs hp hf hr => ?_, fun cls t f s hs hp hf ha hr => ?_,
    fun op cls t f s hs hp hf ha ho hr => ?_⟩
  · change Host.Outcome.next (takeDirect t (.abort f) (intakeAbort f) s) = _
    rw [takeDirect_of_serving _ hs (fits_length hl _), intakeAbort, if_pos (c := placesFull (s.atFrame t) = true) hp]
    rfl
  · rw [exec_manageInstr hs hl, manageChecks_of_full (s := s.atFrame t) hp]
    rfl
  · rw [exec_unknownCode hs hl, manageChecks_of_full (s := s.atFrame t) hp]
    rfl
  · rw [exec_request hs (fits_length hl _), intakeRequest_of_fault hd, refuse_of_full (s := s.atFrame t) hp]
    rfl
  · rw [exec_request hs (requestFormed_length hf _)]
    by_cases ht : tagInUse s (tagOf f.tag) = true
    · rw [intakeRequest_of_duplicate (s := s.atFrame t) hf ht, refuse_of_full (s := s.atFrame t) hp]
      rfl
    · obtain ⟨⟨d, index⟩, ha⟩ := hr.resolve_left ht
      rw [intakeRequest_of_noAccess (s := s.atFrame t) ⟨hf, Bool.eq_false_iff.2 ht⟩ ha,
        refuse_of_full (s := s.atFrame t) hp]
      rfl
  · refine (exec_request (op := .read) hs (hf.length_le _)).trans ?_
    cases ho : mirrorOffer .read f (s.atFrame t) with
    | some i =>
      rw [intakeRequest_of_offer (hf.atFrame t) ha ho, if_pos (c := placesFull (s.atFrame t) = true) hp]
      rfl
    | none =>
      have hmirror : mirrorOnly f = true := hr.resolve_left (by simp [ho])
      rw [intakeRequest_of_noOffer (hf.atFrame t) ha ho,
        admitOrRefuse_of_full (s := s.atFrame t) hp (.inl ⟨rfl, hmirror⟩)]
      rfl
  · rw [exec_request hs (hf.length_le _), intakeRequest_of_noOffer (hf.atFrame t) ha ho,
      admitOrRefuse_of_full (s := s.atFrame t) hp (.inr (by rwa [lineRefusal_atFrame]))]
    rfl

end Sys2Proof.Machine
end

section
/-! PROOF. A segment-15 WRITE in Intake (R105, R106). -/

namespace Sys2Proof.Machine

/-- A segment-15 WRITE that port A can take is relayed, and decided by Intake in the state the relay leaves. -/
theorem exec_broadcastWrite {t : Arrival} {f : RequestFrame} {s : State} (hs : Serving s)
    (hl : (downstreamBytes 15 (.request .write f)).length ≤ 96) :
    exec (.broadcastWrite t f) s = .next (intakeBroadcastWrite f (s.atBroadcast t (.request .write f))) :=
  congrArg Host.Outcome.next (takeBroadcast_of_serving _ hs hl)

theorem tagInUse_atBroadcast (t : Arrival) (p : Downstream) (tag : Tag) (s : State) :
    tagInUse (s.atBroadcast t p) tag = tagInUse s tag := by
  obtain ⟨-, hpool, hengine, -, -, hconfig, -⟩ := atBroadcast_keeps t p s
  exact tagInUse_congr hpool (by rw [hconfig]) (by rw [hengine]) tag

theorem lineRefusal_atBroadcast (t : Arrival) (p : Downstream) (a : NodeAddr) (cls : Class) (s : State) :
    lineRefusal (s.atBroadcast t p) a cls = lineRefusal s a cls := by
  obtain ⟨-, hpool, hengine, hmonitor, -⟩ := atBroadcast_keeps t p s
  exact lineRefusal_congr (by rw [hengine]) hmonitor hpool a cls

theorem accessCheck_atBroadcast (t : Arrival) (p : Downstream) (op : Op) (w : PollKey) (s : State) :
    accessCheck (s.atBroadcast t p).config.active op w = accessCheck s.config.active op w := by
  obtain ⟨-, -, -, -, -, hconfig, -⟩ := atBroadcast_keeps t p s
  rw [hconfig]

theorem nodeOf_of_broadcast {b : Byte} (h : b = 31#8) : nodeOf b = 31 := by
  rw [h]
  rfl

theorem RequestFormed.atBroadcast {f : RequestFrame} {s : State} (h : RequestFormed .write f s) (t : Arrival)
    (p : Downstream) : RequestFormed .write f (s.atBroadcast t p) :=
  ⟨h.1, (tagInUse_atBroadcast ..).trans h.2⟩

/-- A node other than 31, a form fault or a tag in use drops the frame. -/
theorem intakeBroadcastWrite_of_unfit {f : RequestFrame} {s : State}
    (h : f.node ≠ 31#8 ∨ requestFormFault .write f ≠ none ∨ tagInUse s (tagOf f.tag) = true) :
    intakeBroadcastWrite f s = decideA (discardFrame s) := by
  by_cases hnode : f.node = 31#8
  · rcases h.resolve_left (not_not_intro hnode) with hform | htag
    · rw [intakeBroadcastWrite, if_neg (not_not_intro hnode), if_pos (Option.isSome_iff_ne_none.2 hform)]
    · simp only [intakeBroadcastWrite, htag, if_true, ite_self]
  · rw [intakeBroadcastWrite, if_pos hnode]

/-- The access check drops the frame, and reports it (R97, R106). -/
theorem intakeBroadcastWrite_of_noAccess {f : RequestFrame} {s : State} {d : AccessRefusal} {index : Nat}
    (hn : f.node = 31#8) (h : RequestFormed .write f s)
    (ha : accessCheck s.config.active .write (requestRange f) = .error (d, index)) :
    intakeBroadcastWrite f s = decideA (raiseRefused (nodeOf f.node) index (discardFrame s)) := by
  obtain ⟨hform, htag⟩ := h
  simp only [intakeBroadcastWrite, hn, ne_eq, not_true_eq_false, hform, Option.isSome_none, htag, ha,
    Bool.false_eq_true, if_false]

/-- Steps 6 and 8 of R91 drop the frame (R106). -/
theorem intakeBroadcastWrite_of_lineRefusal {f : RequestFrame} {s : State} {cls : Class} {status : Status}
    (h : RequestFormed .write f s) (ha : accessCheck s.config.active .write (requestRange f) = .ok cls)
    (hl : lineRefusal s (nodeOf f.node) cls = some status) :
    intakeBroadcastWrite f s = decideA (discardFrame s) := by
  obtain ⟨hform, htag⟩ := h
  simp only [intakeBroadcastWrite, hform, Option.isSome_none, htag, ha, hl, Bool.false_eq_true, ite_self]

/-- A broadcast WRITE that passes its checks is admitted (R106). -/
theorem intakeBroadcastWrite_of_passed {f : RequestFrame} {s : State} {cls : Class}
    (hn : f.node = 31#8) (h : RequestFormed .write f s)
    (ha : accessCheck s.config.active .write (requestRange f) = .ok cls)
    (hl : lineRefusal s (nodeOf f.node) cls = none) :
    intakeBroadcastWrite f s = decideA (decideDrop (admitSlot (requestRecord .write .broadcast cls f) s)) := by
  obtain ⟨hform, htag⟩ := h
  rw [intakeBroadcastWrite, if_neg (not_not_intro hn)]
  simp only [hform, Option.isSome_none, htag, ha, hl, Bool.false_eq_true, if_false]

/-- Node 31 has no health record, so a port out of service or a pool without room is what refuses it. -/
theorem lineRefusal_of_closed {s : State} {a : NodeAddr} {cls : Class} (h31 : a.val = 31)
    (h : s.engine.port = .isolated ∨ s.engine.port = .jammed ∨ hasRoom s cls = false) :
    ∃ status, lineRefusal s a cls = some status := by
  by_cases hi : s.engine.port = .isolated
  · exact ⟨_, lineRefusal_of_isolated hi ..⟩
  · by_cases hj : s.engine.port = .jammed
    · exact ⟨_, lineRefusal_of_jammed hj ..⟩
    · exact ⟨_, lineRefusal_of_noRoom hi hj (.inl h31) ((h.resolve_left hi).resolve_left hj)⟩

/-- Settles O20: the relay leaves what the checks read, and node 31 skips the check of step 7. -/
theorem broadcastWriteIsAdmittedOrDropped : Obligations.BroadcastWriteIsAdmittedOrDropped := by
  refine ⟨fun cls t f s hs hn hf ha hi hj hr => ?_, fun t f s hs hl h => ?_, fun d index t f s hs hn hf ha => ?_,
    fun cls t f s hs hn hf ha hclosed => ?_⟩
  · have hopen : lineRefusal s (nodeOf f.node) cls = none :=
      lineRefusal_of_open hi hj (.inl (by rw [nodeOf_of_broadcast hn]; rfl)) hr
    rw [exec_broadcastWrite hs (hf.length_le _), intakeBroadcastWrite_of_passed hn (hf.atBroadcast ..)
      ((accessCheck_atBroadcast ..).trans ha) ((lineRefusal_atBroadcast ..).trans hopen), requestRecord,
      nodeOf_of_broadcast hn]
  · rw [exec_broadcastWrite hs (fits_length hl _), intakeBroadcastWrite_of_unfit (by rwa [tagInUse_atBroadcast])]
    rfl
  · rw [exec_broadcastWrite hs (hf.length_le _), intakeBroadcastWrite_of_noAccess hn (hf.atBroadcast ..)
      ((accessCheck_atBroadcast ..).trans ha), nodeOf_of_broadcast hn]
    rfl
  · obtain ⟨status, hstatus⟩ := lineRefusal_of_closed (congrArg Fin.val (nodeOf_of_broadcast hn)) hclosed
    rw [exec_broadcastWrite hs (hf.length_le _), intakeBroadcastWrite_of_lineRefusal (hf.atBroadcast ..)
      ((accessCheck_atBroadcast ..).trans ha) ((lineRefusal_atBroadcast ..).trans hstatus)]
    rfl

end Sys2Proof.Machine
end

section
/-! PROOF. Frames laid out as bytes and taken back: the check, the common header, the fields of each kind, and the
segment-15 frames on port A (R105 to R107, R128 to R132, R137, R144 to R146, R153). -/

namespace Sys2Proof.Machine

/-! ### Words and the check (R128, R129) -/

/-- The two bytes of a word are that word. -/
theorem word16_extract (w : BitVec 16) : word16 (w.extractLsb' 8 8) (w.extractLsb' 0 8) = w := by
  have hw := w.isLt
  apply BitVec.eq_of_toNat_eq
  rw [word16, BitVec.toNat_ofNat, BitVec.extractLsb'_toNat, BitVec.extractLsb'_toNat, Nat.shiftRight_eq_div_pow,
    Nat.shiftRight_zero]
  omega

/-- The check covers what it was computed over (R129). -/
@[simp] theorem coveredBytes_withCheck (bytes : List Byte) : coveredBytes (withCheck bytes) = bytes := by
  rw [coveredBytes, withCheck_length, Nat.add_sub_cancel, withCheck, List.take_left]

@[simp] theorem checkHolds_withCheck (bytes : List Byte) : checkHolds (withCheck bytes) = true := by
  rw [checkHolds, coveredBytes_withCheck, withCheck_length, Nat.add_sub_cancel, withCheck, List.drop_left,
    beq_self_eq_true]

/-! ### The common header (R130) -/

/-- The segment number is the high nibble. -/
theorem segmentFlags_div (segment : Fin 16) (flags : BitVec 4) :
    (segmentFlags segment flags).toNat / 16 = segment.val := by
  have hf := flags.isLt
  have hs := segment.isLt
  rw [segmentFlags, BitVec.toNat_append, ← Nat.shiftLeft_add_eq_or_of_lt hf, Nat.shiftLeft_eq, BitVec.toNat_ofNat]
  omega

/-- The flags are the low nibble. -/
theorem segmentFlags_flags (segment : Fin 16) (flags : BitVec 4) :
    (segmentFlags segment flags).extractLsb' 0 4 = flags :=
  BitVec.extractLsb'_append_eq_right

/-- A frame given by its fields carries its segment number. -/
theorem segmentOf_downstreamBytes (segment : Fin 16) {p : Downstream} (hp : p ≠ .short) :
    segmentOf (downstreamBytes segment p) = segment := by
  have hof : ∀ flags, Fin.ofNat 16 ((segmentFlags segment flags).toNat / 16) = segment := fun flags => by
    rw [segmentFlags_div]
    exact Fin.ofNat_val_eq_self segment
  cases p with
  | request op f => exact hof f.flags
  | abort f => exact hof f.flags
  | manage code f => exact hof f.flags
  | short => exact absurd rfl hp

/-! ### The fields of each kind (R130 to R132) -/

theorem coveredBytes_downstreamBytes (segment : Fin 16) (p : Downstream) :
    coveredBytes (downstreamBytes segment p) = downstreamCovered segment p :=
  coveredBytes_withCheck _

/-- A READ or WRITE is read back from its bytes. -/
theorem parseDownstream_request (segment : Fin 16) (op : Op) (f : RequestFrame) :
    parseDownstream (downstreamBytes segment (.request op f)) = .request op f := by
  have hlong : ¬ (downstreamBytes segment (.request op f)).length < 9 := by
    simp [downstreamBytes, downstreamCovered]
  have hflags : flagsOf (downstreamBytes segment (.request op f)) = f.flags := segmentFlags_flags segment f.flags
  have hfields := congrArg (fun address => Downstream.request op { f with address := address })
    (word16_extract f.address)
  unfold parseDownstream
  rw [coveredBytes_downstreamBytes, hflags]
  cases op with
  | read => exact (if_pos rfl).trans ((if_neg hlong).trans hfields)
  | write =>
    exact (if_neg (show kindWrite ≠ kindRead by decide)).trans ((if_pos rfl).trans ((if_neg hlong).trans hfields))

/-- A MANAGE frame is read back from its bytes. -/
theorem parseDownstream_manage (segment : Fin 16) (code : Byte) (f : ManageFrame) :
    parseDownstream (downstreamBytes segment (.manage code f)) = .manage code f := by
  have hlong : ¬ (downstreamBytes segment (.manage code f)).length < 8 := by
    simp [downstreamBytes, downstreamCovered]
  have hflags : flagsOf (downstreamBytes segment (.manage code f)) = f.flags := segmentFlags_flags segment f.flags
  unfold parseDownstream
  rw [coveredBytes_downstreamBytes, hflags]
  exact (if_neg (show kindManage ≠ kindRead by decide)).trans
    ((if_neg (show kindManage ≠ kindWrite by decide)).trans
      ((if_neg (show kindManage ≠ kindAbort by decide)).trans (if_neg hlong)))

/-! ### Frames given as bytes on port A (R131, R144 to R146) -/

/-- Of the receive checks only the length can fail for a frame that was laid out with its check. -/
theorem isCorrupt_downstreamBytes (segment : Fin 16) {p : Downstream} (hp : p ≠ .short) :
    isCorrupt { symbolsValid := true, bytes := downstreamBytes segment p } =
      decide (Config.maxTrunkFrame < (downstreamBytes segment p).length) := by
  have hcheck : checkHolds (downstreamBytes segment p) = true := checkHolds_withCheck _
  have hlong : ¬ (downstreamBytes segment p).length < Config.minTrunkFrame := by
    cases p with
    | short => exact absurd rfl hp
    | _ => simp [downstreamBytes, downstreamCovered, Config.minTrunkFrame]
  have hkind : byteAt (downstreamBytes segment p) 0 ∈
      [kindRead, kindWrite, kindAbort, kindManage, kindReply, kindNotice] := by
    cases p with
    | request op f => cases op <;> simp [downstreamBytes, downstreamCovered, withCheck, byteAt, requestKind]
    | short => exact absurd rfl hp
    | _ => simp [downstreamBytes, downstreamCovered, withCheck, byteAt]
  simp only [isCorrupt, hcheck, hlong, List.contains_iff_mem.2 hkind, Bool.not_true, Bool.or_false, decide_false,
    Bool.false_or]

/-- A downstream frame is not of an upstream kind. -/
theorem isUpstreamKind_downstreamBytes (segment : Fin 16) {p : Downstream} (hp : p ≠ .short) :
    isUpstreamKind { symbolsValid := true, bytes := downstreamBytes segment p } = false := by
  cases p with
  | request op f => cases op <;> rfl
  | abort f => rfl
  | manage code f => rfl
  | short => exact absurd rfl hp

/-- A port that is UP sorts a downstream frame by its segment number, unless it is too long to be one. -/
theorem takeA_downstreamBytes (t : Arrival) (segment : Fin 16) {p : Downstream} (hp : p ≠ .short) (s : State) :
    takeA t { symbolsValid := true, bytes := downstreamBytes segment p } s =
      if s.trunk.aUp = false then s
      else if Config.maxTrunkFrame < (downstreamBytes segment p).length then bump .aCorrupt s
      else sortDownstream t (downstreamBytes segment p) (bump .aReceived s) := by
  simp only [takeA, isCorrupt_downstreamBytes segment hp, isUpstreamKind_downstreamBytes segment hp,
    decide_eq_true_eq, Bool.false_eq_true, if_false]

/-- A controller with segment number 15 is in REPEATER mode, so a segment-15 frame is never its own (R146, R153). -/
theorem segment_ne_of_not_repeater {s : State} (h : s.repeater = false) : (15 : Fin 16) ≠ s.segment :=
  fun h15 => by simp [State.repeater, Config.repeaterStrap, ← h15] at h

/-- A segment-15 frame goes to the DOWN relay, and to Intake unless in REPEATER mode (R146, R153). -/
theorem sortDownstream_broadcast (t : Arrival) {p : Downstream} (hp : p ≠ .short)
    (hparse : parseDownstream (downstreamBytes 15 p) = p) (s : State) :
    sortDownstream t (downstreamBytes 15 p) s =
      if s.repeater then relayDown (downstreamBytes 15 p) (arrivalInstant t s) s
      else intakeBroadcast t p (relayDown (downstreamBytes 15 p) (arrivalInstant t s) s) := by
  unfold sortDownstream
  rw [segmentOf_downstreamBytes 15 hp, hparse]
  cases hr : s.repeater with
  | true => rfl
  | false => rw [if_neg (segment_ne_of_not_repeater hr), if_pos rfl]

/-- The bytes of a segment-15 frame are taken as the frame of its fields. -/
theorem exec_aFrameReceived_broadcast (t : Arrival) {p : Downstream} (hp : p ≠ .short)
    (hparse : parseDownstream (downstreamBytes 15 p) = p) (s : State) :
    exec (.aFrameReceived t { symbolsValid := true, bytes := downstreamBytes 15 p }) s =
      .next (takeBroadcast t p (intakeBroadcast t p) s) := by
  refine congrArg (fun take => Host.Outcome.next (running t.elapsed take s)) (funext fun u => ?_)
  rw [takeA_downstreamBytes t 15 hp, sortDownstream_broadcast t hp hparse]
  rfl

/-- Settles O13: the bytes read back as the fields, and Intake's dispatch of a segment-15 frame is the command's. -/
theorem broadcastBytesAreTheirCommands : Obligations.BroadcastBytesAreTheirCommands :=
  ⟨fun t f s => exec_aFrameReceived_broadcast t (by simp) (parseDownstream_request 15 .write f) s,
    fun t f s => exec_aFrameReceived_broadcast t (by simp) (parseDownstream_manage 15 ManageCode.epochSet.byte f) s,
    fun t f s =>
      exec_aFrameReceived_broadcast t (by simp) (parseDownstream_manage 15 ManageCode.segmentReset.byte f) s⟩

end Sys2Proof.Machine
end

section
/-! PROOF. The configuration session: EDIT_OPEN, EDIT_CLOSE, ENTRY_WRITE, ENTRY_READ and COMMIT by the state of the session
(R104, R109 to R119, R121, R138). -/

namespace Sys2Proof.Machine

/-! ### What the session's refusals carry (R115) -/

theorem sessionResult_of_closed {s : State} (h : s.config.session = .closed) : sessionResult s = [.raw [0#8, 0#8]] := by
  rw [sessionResult, h]
  rfl

theorem sessionResult_of_opened {s : State} {id : Byte} {expiry : Stamp} (h : s.config.session = .opened id expiry) :
    sessionResult s = [.raw [1#8, id]] := by
  rw [sessionResult, h]
  rfl

theorem sessionResult_of_pending {s : State} {id : Byte} {tag : Tag} (h : s.config.session = .commitPending id tag) :
    sessionResult s = [.raw [2#8, id]] := by
  rw [sessionResult, h]
  rfl

/-- With a COMMIT pending, a request that needs OPEN is refused with COMMIT_PENDING, or with NO_SESSION where it names
another id. -/
theorem pendingRefusal_eq {s : State} {f : ManageFrame} {id : Byte} {tag : Tag}
    (h : s.config.session = .commitPending id tag) :
    (if argByte f 0 = id then reply f .commitPending 0#8 (sessionResult s) s
      else reply f .noSession 0#8 (sessionResult s) s) =
      answer f.tag f.node (if argByte f 0 = id then .commitPending else .noSession) 0#8 [.raw [2#8, id]] s := by
  rw [sessionResult_of_pending h]
  split <;> rfl

/-! ### EDIT_OPEN (R114, R115) -/

theorem ownEditOpen_of_closed {s : State} {id : Byte} (f : ManageFrame)
    (hid : id = if s.config.lastId = 255#8 then 1#8 else s.config.lastId + 1#8) (h : s.config.session = .closed) :
    ownEditOpen f s =
      answer f.tag f.node .ok 0#8 [.raw (id :: be32 s.config.generation)]
        { s with
          config :=
            { s.config with
              shadow := s.config.active, lastId := id
              session := .opened id (s.time.clock + ms (s.config.active.segment.sessionTimeout * 1000)) } } := by
  subst hid
  simp only [ownEditOpen, h]
  rfl

theorem ownEditOpen_of_opened {s : State} {id : Byte} {expiry : Stamp} (f : ManageFrame)
    (h : s.config.session = .opened id expiry) :
    ownEditOpen f s = answer f.tag f.node .sessionBusy 0#8 [.raw [1#8, id]] s := by
  simp only [ownEditOpen, h, sessionResult_of_opened h, reply]

theorem ownEditOpen_of_pending {s : State} {id : Byte} {tag : Tag} (f : ManageFrame)
    (h : s.config.session = .commitPending id tag) :
    ownEditOpen f s = answer f.tag f.node .sessionBusy 0#8 [.raw [2#8, id]] s := by
  simp only [ownEditOpen, h, sessionResult_of_pending h, reply]

/-! ### EDIT_CLOSE (R118) -/

theorem ownEditClose_of_closed {s : State} (f : ManageFrame) (h : s.config.session = .closed) :
    ownEditClose f s = answer f.tag f.node .noSession 0#8 [.raw [0#8, 0#8]] s := by
  simp only [ownEditClose, h, sessionResult_of_closed h, reply]

theorem ownEditClose_of_opened {s : State} {id : Byte} {expiry : Stamp} (f : ManageFrame)
    (h : s.config.session = .opened id expiry) :
    ownEditClose f s =
      if argByte f 0 = id then answer f.tag f.node .ok 0#8 [] (closeSession s)
      else answer f.tag f.node .noSession 0#8 [.raw [1#8, id]] s := by
  simp only [ownEditClose, h, sessionResult_of_opened h, reply]

theorem ownEditClose_of_pending {s : State} {id : Byte} {tag : Tag} (f : ManageFrame)
    (h : s.config.session = .commitPending id tag) :
    ownEditClose f s =
      answer f.tag f.node (if argByte f 0 = id then .commitPending else .noSession) 0#8 [.raw [2#8, id]] s := by
  simp only [ownEditClose, h, pendingRefusal_eq h]

/-! ### What an ENTRY_WRITE makes of SHADOW (R111, R112, R116) -/

theorem writtenShadow_of_noEntry {f : ManageFrame} {n : Nat} (b : Tables)
    (h : entryRef (argByte f 1) (argByte f 2) = .error n) : writtenShadow f b = .error n := by
  rw [writtenShadow, h]

theorem writtenShadow_of_fault {f : ManageFrame} {r : EntryRef} {n : Nat} (b : Tables)
    (h : entryRef (argByte f 1) (argByte f 2) = .ok r) (hm : argByte f 3 = 1#8)
    (hn : imageFault r (f.args.drop 4) = some n) : writtenShadow f b = .error n := by
  have hmode : argByte f 3 ≠ 2#8 := by rw [hm]; decide
  simp only [writtenShadow, h, if_neg hmode, writeImageOf, hn]

theorem writtenShadow_of_passed {f : ManageFrame} {r : EntryRef} (b : Tables)
    (h : entryRef (argByte f 1) (argByte f 2) = .ok r) (hm : argByte f 3 = 1#8 ∨ argByte f 3 = 2#8)
    (hi : argByte f 3 = 1#8 → imageFault r (f.args.drop 4) = none) :
    writtenShadow f b =
      .ok (if argByte f 3 = 2#8 then b.clearEntry r else b.writeImage r (f.args.drop 4)) := by
  by_cases hmode : argByte f 3 = 2#8
  · simp only [writtenShadow, h, if_pos hmode]
  · simp only [writtenShadow, h, if_neg hmode, writeImageOf, hi (hm.resolve_right hmode)]

/-! ### ENTRY_WRITE (R114, R116, R138) -/

theorem ownEntryWrite_of_badMode {f : ManageFrame} (s : State) (h1 : argByte f 3 ≠ 1#8) (h2 : argByte f 3 ≠ 2#8) :
    ownEntryWrite f s = answer f.tag f.node .badRequest 11#8 [] s :=
  if_pos ⟨h1, h2⟩

section
variable {f : ManageFrame} {s : State} (hm : argByte f 3 = 1#8 ∨ argByte f 3 = 2#8)
include hm

/-- A frame whose mode is known goes on to the session. -/
theorem not_badMode : ¬ (argByte f 3 ≠ 1#8 ∧ argByte f 3 ≠ 2#8) :=
  fun h => hm.elim h.1 h.2

theorem ownEntryWrite_of_closed (h : s.config.session = .closed) :
    ownEntryWrite f s = answer f.tag f.node .noSession 0#8 [.raw [0#8, 0#8]] s := by
  simp only [ownEntryWrite, if_neg (not_badMode hm), h, sessionResult_of_closed h, reply]

theorem ownEntryWrite_of_pending {id : Byte} {tag : Tag} (h : s.config.session = .commitPending id tag) :
    ownEntryWrite f s =
      answer f.tag f.node (if argByte f 0 = id then .commitPending else .noSession) 0#8 [.raw [2#8, id]] s := by
  simp only [ownEntryWrite, if_neg (not_badMode hm), h, pendingRefusal_eq h]

theorem ownEntryWrite_of_otherId {id : Byte} {expiry : Stamp} (h : s.config.session = .opened id expiry)
    (hid : argByte f 0 ≠ id) : ownEntryWrite f s = answer f.tag f.node .noSession 0#8 [.raw [1#8, id]] s := by
  simp only [ownEntryWrite, if_neg (not_badMode hm), h, if_pos hid, sessionResult_of_opened h, reply]

theorem ownEntryWrite_of_refused {id : Byte} {expiry : Stamp} {n : Nat} (h : s.config.session = .opened id expiry)
    (hid : argByte f 0 = id) (hw : writtenShadow f s.config.shadow = .error n) :
    ownEntryWrite f s = answer f.tag f.node .badEntry (BitVec.ofNat 8 n) [] (startSessionTimer id s) := by
  simp only [ownEntryWrite, if_neg (not_badMode hm), h, if_neg (not_not_intro hid), hw, reply, entryFaultCode]

theorem ownEntryWrite_of_written {id : Byte} {expiry : Stamp} {b : Tables} (h : s.config.session = .opened id expiry)
    (hid : argByte f 0 = id) (hw : writtenShadow f s.config.shadow = .ok b) :
    ownEntryWrite f s =
      answer f.tag f.node .ok 0#8 []
        (startSessionTimer id { s with config := { s.config with shadow := b } }) := by
  simp only [ownEntryWrite, if_neg (not_badMode hm), h, if_neg (not_not_intro hid), hw, reply]

end

/-! ### ENTRY_READ (R114, R117, R138) -/

theorem ownEntryRead_of_noEntry {f : ManageFrame} {n : Nat} (s : State)
    (h : entryRef (argByte f 1) (argByte f 3) = .error n) :
    ownEntryRead f s = answer f.tag f.node .badRequest 11#8 [] s := by
  rw [ownEntryRead, h]
  rfl

theorem ownEntryRead_of_noBank {f : ManageFrame} (s : State) (h1 : argByte f 2 ≠ 1#8) (h2 : argByte f 2 ≠ 2#8) :
    ownEntryRead f s = answer f.tag f.node .badRequest 11#8 [] s := by
  rw [ownEntryRead]
  split
  · rfl
  · rw [if_neg h1, if_neg h2]
    rfl

theorem ownEntryRead_active {f : ManageFrame} {r : EntryRef} (s : State)
    (h : entryRef (argByte f 1) (argByte f 3) = .ok r) (hb : argByte f 2 = 1#8) :
    ownEntryRead f s =
      answer f.tag f.node .ok 0#8
        [.raw ([argByte f 1, 1#8, argByte f 3] ++ be32 s.config.generation ++ s.config.active.image r)] s := by
  simp only [ownEntryRead, h, hb, if_true, reply, entryResult]

section
variable {f : ManageFrame} {s : State} {r : EntryRef} (hr : entryRef (argByte f 1) (argByte f 3) = .ok r)
  (hb : argByte f 2 = 2#8)
include hr hb

theorem ownEntryRead_shadow_of_closed (h : s.config.session = .closed) :
    ownEntryRead f s = answer f.tag f.node .noSession 0#8 [.raw [0#8, 0#8]] s := by
  simp only [ownEntryRead, hr, hb, BitVec.reduceEq, if_false, if_true, h, sessionResult_of_closed h, reply]

theorem ownEntryRead_shadow_of_opened {id : Byte} {expiry : Stamp} (h : s.config.session = .opened id expiry) :
    ownEntryRead f s =
      if argByte f 0 = id then
        answer f.tag f.node .ok 0#8
          [.raw ([argByte f 1, 2#8, argByte f 3] ++ be32 s.config.generation ++ s.config.shadow.image r)]
          (startSessionTimer id s)
      else answer f.tag f.node .noSession 0#8 [.raw [1#8, id]] s := by
  simp only [ownEntryRead, hr, hb, BitVec.reduceEq, if_false, if_true, h, sessionResult_of_opened h, reply, entryResult]

theorem ownEntryRead_shadow_of_pending {id : Byte} {tag : Tag} (h : s.config.session = .commitPending id tag) :
    ownEntryRead f s =
      if argByte f 0 = id then
        answer f.tag f.node .ok 0#8
          [.raw ([argByte f 1, 2#8, argByte f 3] ++ be32 s.config.generation ++ s.config.shadow.image r)] s
      else answer f.tag f.node .noSession 0#8 [.raw [2#8, id]] s := by
  simp only [ownEntryRead, hr, hb, BitVec.reduceEq, if_false, if_true, h, sessionResult_of_pending h, reply, entryResult]

end

/-! ### COMMIT (R114, R119, R121) -/

theorem ownCommit_of_closed {s : State} (f : ManageFrame) (h : s.config.session = .closed) :
    ownCommit f s = answer f.tag f.node .noSession 0#8 [.raw [0#8, 0#8]] s := by
  simp only [ownCommit, h, sessionResult_of_closed h, reply]

theorem ownCommit_of_pending {s : State} {id : Byte} {tag : Tag} (f : ManageFrame)
    (h : s.config.session = .commitPending id tag) :
    ownCommit f s =
      answer f.tag f.node (if argByte f 0 = id then .commitPending else .noSession) 0#8 [.raw [2#8, id]] s := by
  simp only [ownCommit, h, pendingRefusal_eq h]

theorem ownCommit_of_otherId {f : ManageFrame} {s : State} {id : Byte} {expiry : Stamp}
    (h : s.config.session = .opened id expiry) (hid : argByte f 0 ≠ id) :
    ownCommit f s = answer f.tag f.node .noSession 0#8 [.raw [1#8, id]] s := by
  simp only [ownCommit, h, if_pos hid, sessionResult_of_opened h, reply]

theorem ownCommit_of_fault {f : ManageFrame} {s : State} {id : Byte} {expiry : Stamp} {d : TableFault} {i : CellIx}
    (h : s.config.session = .opened id expiry) (hid : argByte f 0 = id)
    (hd : tablesFault s.config.shadow = some (d, i)) :
    ownCommit f s =
      answer f.tag f.node .badTable d.code [.raw [2#8, BitVec.ofNat 8 i.val]] (startSessionTimer id s) := by
  simp only [ownCommit, h, if_neg (not_not_intro hid), hd, reply, pollTableCode]

theorem ownCommit_of_passed {f : ManageFrame} {s : State} {id : Byte} {expiry : Stamp}
    (h : s.config.session = .opened id expiry) (hid : argByte f 0 = id) (hd : tablesFault s.config.shadow = none) :
    ownCommit f s = { s with config := { s.config with session := .commitPending id (tagOf f.tag) } } := by
  simp only [ownCommit, h, if_neg (not_not_intro hid), hd]

/-! ### The commands -/

/-- A direct MANAGE frame that passes every check of R103 has the effect that its owner gives it. -/
theorem exec_manage_of_owner {code : ManageCode} {t : Arrival} {f : ManageFrame} {s u : State} (hs : Serving s)
    (hp : ManagePasses code f s) (h : ownerOf code t f (s.atFrame t) = u) :
    exec (manageInstr code t f) s = .next (decideA u) := by
  subst h
  cases code <;> exact congrArg Host.Outcome.next (takeManage_of_passes t _ hs hp)

/-- Settles O24. -/
theorem editOpenOpensOnlyClosedSession : Obligations.EditOpenOpensOnlyClosedSession :=
  fun _ f _ hs hp =>
    ⟨fun _ hid h => exec_manage_of_owner (code := .editOpen) hs hp (ownEditOpen_of_closed f hid h),
      fun _ _ h => exec_manage_of_owner (code := .editOpen) hs hp (ownEditOpen_of_opened f h),
      fun _ _ h => exec_manage_of_owner (code := .editOpen) hs hp (ownEditOpen_of_pending f h)⟩

/-- Settles O25. -/
theorem editCloseReloadsShadowAndCloses : Obligations.EditCloseReloadsShadowAndCloses :=
  fun _ f _ hs hp =>
    ⟨fun h => exec_manage_of_owner (code := .editClose) hs hp (ownEditClose_of_closed f h),
      fun _ _ h => exec_manage_of_owner (code := .editClose) hs hp (ownEditClose_of_opened f h),
      fun _ _ h => exec_manage_of_owner (code := .editClose) hs hp (ownEditClose_of_pending f h)⟩

/-- Settles O28. -/
theorem entryReadReturnsEntryOfBank : Obligations.EntryReadReturnsEntryOfBank := by
  intro t f s hs hp
  have hexec {u : State} (h : ownEntryRead f (s.atFrame t) = u) : exec (.entryRead t f) s = .next (decideA u) :=
    exec_manage_of_owner (code := .entryRead) hs hp h
  refine ⟨fun h => ?_, fun r hr hb => hexec (ownEntryRead_active _ hr hb), fun r hr hb => ⟨fun h => ?_,
    fun id expiry h => ?_, fun id tag h => ?_⟩⟩
  · obtain ⟨n, hn⟩ | ⟨h1, h2⟩ := h
    · exact hexec (ownEntryRead_of_noEntry _ hn)
    · exact hexec (ownEntryRead_of_noBank _ h1 h2)
  · exact hexec (ownEntryRead_shadow_of_closed hr hb h)
  · exact hexec (ownEntryRead_shadow_of_opened hr hb h)
  · exact hexec (ownEntryRead_shadow_of_pending hr hb h)

end Sys2Proof.Machine
end

section
/-! PROOF. Entries of the four tables: how they are named, which fields of an image are refused, and that an accepted image
reads back as it was written (R109 to R112, R116, R139). -/

namespace Sys2Proof.Machine

/-! ### Naming an entry (R109) -/

theorem entryRef_eq_ok_iff {table index : Byte} {r : EntryRef} :
    entryRef table index = .ok r ↔
      match r with
      | .access i => table = 1#8 ∧ index.toNat = i.val
      | .poll i => table = 2#8 ∧ index.toNat = i.val
      | .node i => table = 3#8 ∧ index.toNat = i.val + 1
      | .segment => table = 4#8 ∧ index = 0#8 := by
  constructor
  · intro h
    unfold entryRef at h
    split_ifs at h with h1 hi h2 hi h3 hi h4 hi <;> cases h
    · exact ⟨h1, rfl⟩
    · exact ⟨h2, rfl⟩
    · exact ⟨h3, (Nat.sub_add_cancel hi.1).symm⟩
    · exact ⟨h4, hi⟩
  · intro h
    cases r with
    | access i =>
      obtain ⟨rfl, hi⟩ := h
      simp [entryRef, hi]
    | poll i =>
      obtain ⟨rfl, hi⟩ := h
      simp [entryRef, hi]
    | node i =>
      obtain ⟨rfl, hi⟩ := h
      have hle : i.val + 1 ≤ 30 := i.isLt
      simp [entryRef, hi, hle]
    | segment =>
      obtain ⟨rfl, rfl⟩ := h
      rfl

theorem error_of_entryRef {table index : Byte} {n : Nat} (h : entryRef table index = .error n) :
    n = if table = 0#8 ∨ 4 < table.toNat then 254 else 255 := by
  unfold entryRef at h
  split_ifs at h with h1 _ h2 _ h3 _ h4 <;> cases h
  · simp [h1]
  · simp [h2]
  · simp [h3]
  · simp [h4]
  · exact (if_pos (by bv_omega)).symm

/-! ### Fields out of range (R110, R111) -/

theorem outside_iff {lo hi n : Nat} : outside lo hi n = true ↔ n < lo ∨ hi < n := by
  rw [outside, Bool.or_eq_true, decide_eq_true_eq, decide_eq_true_eq]

theorem outside_zero_iff {hi n : Nat} : outside 0 hi n = true ↔ hi < n := by
  rw [outside_iff, or_iff_right (Nat.not_lt_zero n)]

/-- A byte that is to be at least 1. -/
theorem outside_byte_iff {hi : Nat} {b : Byte} : outside 1 hi b.toNat = true ↔ b = 0#8 ∨ hi < b.toNat := by
  rw [outside_iff, Nat.lt_one_iff, ← BitVec.toNat_inj]
  rfl

/-- A byte with no upper bound of its own. -/
theorem outside_byte_max_iff {b : Byte} : outside 1 255 b.toNat = true ↔ b = 0#8 := by
  rw [outside_byte_iff, or_iff_left (by have := b.isLt; omega)]

/-- A byte that is to be 1 or 2. -/
theorem outside_byte_two_iff {b : Byte} : outside 1 2 b.toNat = true ↔ b ≠ 1#8 ∧ b ≠ 2#8 := by
  rw [outside_iff]
  bv_omega

/-- A 16-bit number that is to be at least 1. -/
theorem outside_word_iff {max : Nat} {hi lo : Byte} :
    outside 1 max (word16 hi lo).toNat = true ↔ hi = 0#8 ∧ lo = 0#8 ∨ max < (word16 hi lo).toNat := by
  rw [outside_iff, Nat.lt_one_iff, word16_toNat_eq_zero_iff]

/-- No space is named where the low four bits are clear. -/
theorem low4_eq_zero_iff {b : Byte} : b.toNat % 16 = 0 ↔ b &&& 15#8 = 0#8 := by
  rw [← BitVec.toNat_inj, BitVec.toNat_and, ← Nat.and_two_pow_sub_one_eq_mod b.toNat 4]
  rfl

/-- No op is named where the low two bits are clear. -/
theorem low2_eq_zero_iff {b : Byte} : b.toNat % 4 = 0 ↔ b &&& 3#8 = 0#8 := by
  rw [← BitVec.toNat_inj, BitVec.toNat_and, ← Nat.and_two_pow_sub_one_eq_mod b.toNat 2]
  rfl

theorem accessFault_eq (img : List Byte) :
    accessFault img =
      if 1 < (byteAt img 0).toNat then some 1
      else if byteAt img 1 = 0#8 ∨ 31 < (byteAt img 1).toNat then some 2
      else if byteAt img 2 = 0#8 ∨ 31 < (byteAt img 2).toNat ∨ byteAt img 2 < byteAt img 1 then some 3
      else if byteAt img 3 &&& 15#8 = 0#8 then some 4
      else if word16 (byteAt img 6) (byteAt img 7) < word16 (byteAt img 4) (byteAt img 5) then some 6
      else if byteAt img 8 ≠ 1#8 ∧ byteAt img 8 ≠ 2#8 then some 7
      else if byteAt img 9 &&& 3#8 = 0#8 then some 8
      else if byteAt img 10 = 0#8 ∨ 32 < (byteAt img 10).toNat then some 9
      else if byteAt img 11 = 0#8 ∨ 3 < (byteAt img 11).toNat then some 10
      else none := by
  have hlast : (outside 1 31 (imageNat img 2) || decide (imageNat img 2 < imageNat img 1)) = true ↔
      byteAt img 2 = 0#8 ∨ 31 < (byteAt img 2).toNat ∨ byteAt img 2 < byteAt img 1 := by
    rw [Bool.or_eq_true, imageNat, outside_byte_iff, decide_eq_true_eq, or_assoc]
    rfl
  exact if_congr outside_zero_iff rfl <| if_congr outside_byte_iff rfl <| if_congr hlast rfl <|
    if_congr low4_eq_zero_iff rfl <| if_congr Iff.rfl rfl <| if_congr outside_byte_two_iff rfl <|
    if_congr low2_eq_zero_iff rfl <| if_congr outside_byte_iff rfl <| if_congr outside_byte_iff rfl rfl

theorem pollFault_eq (img : List Byte) :
    pollFault img =
      if 1 < (byteAt img 0).toNat then some 1
      else if byteAt img 1 = 0#8 ∨ 30 < (byteAt img 1).toNat then some 2
      else if 3 < (byteAt img 2).toNat then some 3
      else if byteAt img 5 = 0#8 ∨ 8 < (byteAt img 5).toNat ∨
          65536 < (word16 (byteAt img 3) (byteAt img 4)).toNat + (byteAt img 5).toNat then
        some 5
      else if byteAt img 6 = 0#8 ∨ 64 < (byteAt img 6).toNat then some 6
      else if 63 < (byteAt img 7).toNat then some 7
      else if byteAt img 8 = 0#8 ∨ 8 < (byteAt img 8).toNat then some 8
      else none := by
  have hend (a n : Nat) : 65535 < a + n - 1 ↔ 65536 < a + n := by omega
  have hrange : (outside 1 8 (imageNat img 5) || decide (65535 < (imageWord img 3).toNat + imageNat img 5 - 1)) = true ↔
      byteAt img 5 = 0#8 ∨ 8 < (byteAt img 5).toNat ∨
        65536 < (word16 (byteAt img 3) (byteAt img 4)).toNat + (byteAt img 5).toNat := by
    rw [Bool.or_eq_true, imageNat, outside_byte_iff, decide_eq_true_eq, hend, or_assoc]
    rfl
  exact if_congr outside_zero_iff rfl <| if_congr outside_byte_iff rfl <| if_congr outside_zero_iff rfl <|
    if_congr hrange rfl <| if_congr outside_byte_iff rfl <| if_congr outside_zero_iff rfl <|
    if_congr outside_byte_iff rfl rfl

theorem nodeFault_eq (img : List Byte) :
    nodeFault img =
      if 1 < (byteAt img 0).toNat then some 1
      else if byteAt img 1 = 0#8 then some 2
      else if 3 < (byteAt img 2).toNat then some 3
      else if byteAt img 3 = 0#8 ∨ 15 < (byteAt img 3).toNat then some 4
      else if byteAt img 4 = 0#8 then some 5
      else none :=
  if_congr outside_zero_iff rfl <| if_congr outside_byte_max_iff rfl <| if_congr outside_zero_iff rfl <|
    if_congr outside_byte_iff rfl <| if_congr outside_byte_max_iff rfl rfl

theorem segmentFault_eq (img : List Byte) :
    segmentFault img =
      if byteAt img 0 = 0#8 ∧ byteAt img 1 = 0#8 ∨ 1000 < (word16 (byteAt img 0) (byteAt img 1)).toNat then some 1
      else if (byteAt img 2).toNat < 2 ∨ 16 < (byteAt img 2).toNat then some 2
      else if (word16 (byteAt img 3) (byteAt img 4)).toNat < 10 ∨
          1000 < (word16 (byteAt img 3) (byteAt img 4)).toNat then
        some 3
      else if byteAt img 5 = 0#8 ∨ 16 < (byteAt img 5).toNat then some 4
      else if (word16 (byteAt img 6) (byteAt img 7)).toNat < 50 ∨
          5000 < (word16 (byteAt img 6) (byteAt img 7)).toNat then
        some 5
      else if byteAt img 8 = 0#8 ∧ byteAt img 9 = 0#8 ∨ 300 < (word16 (byteAt img 8) (byteAt img 9)).toNat then some 6
      else none :=
  if_congr outside_word_iff rfl <| if_congr outside_iff rfl <| if_congr outside_iff rfl <|
    if_congr outside_byte_iff rfl <| if_congr outside_iff rfl <| if_congr outside_word_iff rfl rfl

/-- Settles O26. -/
theorem entryWriteReplacesShadowEntry : Obligations.EntryWriteReplacesShadowEntry := by
  refine ⟨⟨fun _ _ _ => entryRef_eq_ok_iff, fun _ _ _ => error_of_entryRef, fun _ => accessFault_eq,
    fun _ => pollFault_eq, fun _ => nodeFault_eq, segmentFault_eq⟩, fun t f s hs hp => ?_⟩
  have hexec {u : State} (h : ownEntryWrite f (s.atFrame t) = u) : exec (.entryWrite t f) s = .next (decideA u) :=
    exec_manage_of_owner (code := .entryWrite) hs hp h
  refine ⟨fun h1 h2 => hexec (ownEntryWrite_of_badMode _ h1 h2), fun hm => ⟨fun h => ?_, fun id tag h => ?_,
    fun id expiry h hid => ?_, fun id expiry n h hid hn => ?_, fun id expiry r h hid hr hi => ?_⟩⟩
  · exact hexec (ownEntryWrite_of_closed hm h)
  · exact hexec (ownEntryWrite_of_pending hm h)
  · exact hexec (ownEntryWrite_of_otherId hm h hid)
  · refine hexec (ownEntryWrite_of_refused hm h hid ?_)
    obtain hn | ⟨r, hr, hmode, hn⟩ := hn
    · exact writtenShadow_of_noEntry _ hn
    · exact writtenShadow_of_fault _ hr hmode hn
  · exact hexec (ownEntryWrite_of_written hm h hid (writtenShadow_of_passed _ hr hm hi))

/-! ### The image of an entry (R139) -/

/-- The number that two bytes carry is sent as those bytes. -/
theorem be16_word16 (hi lo : Byte) : be16 (word16 hi lo) = [hi, lo] := by
  have hhi := hi.isLt
  have hlo := lo.isLt
  have htop : (word16 hi lo).extractLsb' 8 8 = hi := by
    apply BitVec.eq_of_toNat_eq
    rw [BitVec.extractLsb'_toNat, word16, BitVec.toNat_ofNat, Nat.shiftRight_eq_div_pow]
    omega
  have hlow : (word16 hi lo).extractLsb' 0 8 = lo := by
    apply BitVec.eq_of_toNat_eq
    rw [BitVec.extractLsb'_toNat, word16, BitVec.toNat_ofNat, Nat.shiftRight_zero]
    omega
  rw [be16, htop, hlow]

/-- A 16-bit number kept as a number is sent as it came. -/
theorem be16_ofNat_imageWord (img : List Byte) (i : Nat) :
    be16 (BitVec.ofNat 16 (imageWord img i).toNat) = [byteAt img i, byteAt img (i + 1)] := by
  rw [BitVec.ofNat_toNat, BitVec.setWidth_eq, imageWord, be16_word16]

/-- A byte kept as a number is sent as it came. -/
theorem ofNat_imageNat (img : List Byte) (i : Nat) : BitVec.ofNat 8 (imageNat img i) = byteAt img i := by
  rw [imageNat, BitVec.ofNat_toNat, BitVec.setWidth_eq]

/-- A yes or no is sent as it came. -/
theorem yesNo_of_image {b : Byte} (h : ¬ 1 < b.toNat) : yesNo (b == 1#8) = b := by
  revert b; decide

/-- A node address is sent as it came. -/
theorem nodeOf_of_image {b : Byte} (h : ¬ 31 < b.toNat) : BitVec.ofNat 8 (nodeOf b).val = b := by
  revert b; decide

/-- A space number is sent as it came. -/
theorem space_of_image {b : Byte} (h : ¬ 3 < b.toNat) : BitVec.ofNat 8 (Fin.ofNat 4 b.toNat).val = b := by
  revert b; decide

/-- The set of spaces is the low four bits of its byte. -/
theorem spaces_of_image (b : Byte) : (b.extractLsb' 0 4).setWidth 8 = b &&& 0x0F#8 := by
  revert b; decide

/-- A verdict is sent as it came. -/
theorem verdict_of_image {b : Byte} (h : ¬ (b ≠ 1#8 ∧ b ≠ 2#8)) :
    Verdict.code (if b = 1#8 then .permit else .deny) = b := by
  revert b; decide

/-- The ops of an entry are the low two bits of their byte. -/
theorem ops_of_image (b : Byte) :
    (if b.getLsbD 0 then 1#8 else 0#8) + (if b.getLsbD 1 then 2#8 else 0#8) = b &&& 0x03#8 := by
  revert b; decide

/-- A class is sent as it came. -/
theorem class_of_image {b : Byte} (h : ¬ (b = 0#8 ∨ 3 < b.toNat)) : (classOf b).code = b := by
  revert b; decide

/-- An ACCESS image that no check refuses is read back with the unused bits of its bytes 3 and 9 cleared. -/
theorem accessImage_of_passed {img : List Byte} (h : accessFault img = none) :
    accessImage (accessOfImage img) =
      [byteAt img 0, byteAt img 1, byteAt img 2, byteAt img 3 &&& 0x0F#8, byteAt img 4, byteAt img 5, byteAt img 6,
        byteAt img 7, byteAt img 8, byteAt img 9 &&& 0x03#8, byteAt img 10, byteAt img 11] := by
  simp only [accessFault_eq, fault_ite_eq_none] at h
  obtain ⟨hused, hfirst, hlast, -, -, hverdict, -, -, hclass, -⟩ := h
  simp only [accessImage, accessOfImage, yesNo_of_image hused, nodeOf_of_image (not_or.1 hfirst).2,
    nodeOf_of_image (not_or.1 (not_or.1 hlast).2).1, spaces_of_image, imageWord, be16_word16,
    verdict_of_image hverdict, ofNat_imageNat, class_of_image hclass, ← ops_of_image (byteAt img 9)]
  rfl

/-- A POLL image that no check refuses is read back. -/
theorem pollImage9_of_passed {img : List Byte} (h : pollFault img = none) :
    pollImage9 (pollOfImage img) =
      [byteAt img 0, byteAt img 1, byteAt img 2, byteAt img 3, byteAt img 4, byteAt img 5, byteAt img 6, byteAt img 7,
        byteAt img 8] := by
  simp only [pollFault_eq, fault_ite_eq_none] at h
  obtain ⟨hused, hnode, hspace, -⟩ := h
  have hnode31 : ¬ 31 < (byteAt img 1).toNat := fun h31 => hnode (.inr (Nat.lt_of_succ_lt h31))
  simp only [pollImage9, pollOfImage, yesNo_of_image hused, nodeOf_of_image hnode31, imageWord, be16_word16,
    ofNat_imageNat]
  rw [imageNat, space_of_image hspace]
  rfl

/-- A NODE image that no check refuses is read back. -/
theorem nodeImage5_of_passed {img : List Byte} (h : nodeFault img = none) :
    nodeImage5 (nodeOfImage img) = [byteAt img 0, byteAt img 1, byteAt img 2, byteAt img 3, byteAt img 4] := by
  rw [nodeFault_eq, fault_ite_eq_none] at h
  simp only [nodeImage5, nodeOfImage, yesNo_of_image h.1, ofNat_imageNat]

/-- A SEGMENT image is read back. -/
theorem segmentImage10_of_image (img : List Byte) :
    segmentImage10 (segmentOfImage img) =
      [byteAt img 0, byteAt img 1, byteAt img 2, byteAt img 3, byteAt img 4, byteAt img 5, byteAt img 6, byteAt img 7,
        byteAt img 8, byteAt img 9] := by
  simp only [segmentImage10, segmentOfImage, be16_ofNat_imageWord, ofNat_imageNat]
  rfl

/-! ### An entry written, read back, and the entries beside it (R116) -/

/-- The entry written reads as the image of what was stored. -/
theorem image_writeImage_same (r : EntryRef) (img : List Byte) (b : Tables) :
    (b.writeImage r img).image r =
      match r with
      | .access _ => accessImage (accessOfImage img)
      | .poll _ => pollImage9 (pollOfImage img) ++ zeros 3
      | .node _ => nodeImage5 (nodeOfImage img) ++ zeros 7
      | .segment => segmentImage10 (segmentOfImage img) ++ zeros 2 := by
  cases r <;> simp [Tables.writeImage, Tables.image]

theorem image_writeImage_of_ne {q r : EntryRef} (h : q ≠ r) (img : List Byte) (b : Tables) :
    (b.writeImage r img).image q = b.image q := by
  cases r with
  | access i =>
    cases q with
    | access j =>
      have hji : i.val ≠ j.val := fun hv => h (congrArg EntryRef.access (Fin.ext hv.symm))
      simp [Tables.writeImage, Tables.image, Vector.getElem_set_ne, hji]
    | _ => rfl
  | poll i =>
    cases q with
    | poll j =>
      have hji : i.val ≠ j.val := fun hv => h (congrArg EntryRef.poll (Fin.ext hv.symm))
      simp [Tables.writeImage, Tables.image, Vector.getElem_set_ne, hji]
    | _ => rfl
  | node i =>
    cases q with
    | node j =>
      have hji : i.val ≠ j.val := fun hv => h (congrArg EntryRef.node (Fin.ext hv.symm))
      simp [Tables.writeImage, Tables.image, Vector.getElem_set_ne, hji]
    | _ => rfl
  | segment =>
    cases q with
    | segment => exact absurd rfl h
    | _ => rfl

/-- Settles O27: the fields that an accepted image holds are sent as the bytes they came from. -/
theorem entryImagesReadBackAsWritten : Obligations.EntryImagesReadBackAsWritten := by
  intro r img b hl h
  refine ⟨?_, fun q hq => image_writeImage_of_ne hq img b⟩
  rw [image_writeImage_same]
  match img, hl with
  | [_, _, _, _, _, _, _, _, _, _, _, _], _ =>
    cases r with
    | access i => exact accessImage_of_passed h
    | poll i => exact congrArg (· ++ zeros 3) (pollImage9_of_passed h)
    | node i => exact congrArg (· ++ zeros 7) (nodeImage5_of_passed h)
    | segment => exact congrArg (· ++ zeros 2) (segmentImage10_of_image _)

end Sys2Proof.Machine
end

section
/-! PROOF. The commit checks: what each of them asks of a POLL entry, the running total of counts, and which fault COMMIT
reports (R119 to R121). -/

namespace Sys2Proof.Machine

/-! ### The checks of one entry (R120) -/

/-- A list's entries that pass a test, summed, are a sum over all its indices. -/
theorem sum_map_filter_finRange {n : Nat} (p : Fin n → Bool) (count : Fin n → Nat) :
    (((List.finRange n).filter p).map count).sum = ∑ j, if p j then count j else 0 := by
  rw [Fin.sum_univ_def]
  induction List.finRange n with
  | nil => rfl
  | cons j js ih => by_cases h : p j <;> simp [h, ih]

/-- The counts of the used POLL entries up to an index, that one's included. -/
def runningTotal (b : Tables) (i : CellIx) : Nat :=
  (((List.finRange 64).filter (fun j => decide (j ≤ i) && (b.poll[j]).used)).map (fun j => (b.poll[j]).count)).sum

/-- The running total at a used entry is the total below it and its own count. -/
theorem runningTotal_of_used {b : Tables} {i : CellIx} (h : (b.poll[i]).used = true) :
    runningTotal b i =
      (((List.finRange 64).filter (fun j => decide (j < i) && (b.poll[j]).used)).map
        (fun j => (b.poll[j]).count)).sum + (b.poll[i]).count := by
  have hsplit (j : CellIx) :
      (if (decide (j ≤ i) && (b.poll[j]).used) = true then (b.poll[j]).count else 0) =
        (if (decide (j < i) && (b.poll[j]).used) = true then (b.poll[j]).count else 0) +
          if j = i then (b.poll[i]).count else 0 := by
    obtain hj | rfl | hj := lt_trichotomy j i
    · simp [hj, hj.le, hj.ne]
    · simp [show b.poll[j.val].used = true from h]
    · simp [hj.not_ge, hj.not_gt, hj.ne']
  rw [runningTotal, sum_map_filter_finRange, sum_map_filter_finRange, Finset.sum_congr rfl fun j _ => hsplit j,
    Finset.sum_add_distrib, Finset.sum_ite_eq' Finset.univ i, if_pos (Finset.mem_univ i)]

theorem any_present_eq_false_iff {b : Tables} {i : CellIx} :
    (nodeIx? (b.poll[i]).node).any (fun n => (b.node[n]).present) = false ↔
      ∀ n, nodeIx? (b.poll[i]).node = some n → (b.node[n]).present = false := by
  cases nodeIx? (b.poll[i]).node <;> simp

theorem any_sameKey_iff {b : Tables} {i : CellIx} :
    ((List.finRange 64).filter (fun j => decide (j < i) && (b.poll[j]).used)).any
        (fun j => (b.poll[j]).key == (b.poll[i]).key) = true ↔
      ∃ j : CellIx, j < i ∧ (b.poll[j]).used = true ∧ (b.poll[j]).key = (b.poll[i]).key := by
  simp [and_assoc]

/-- The checks of R120 on one entry, in their order. -/
theorem entryTableFault_eq (b : Tables) (i : CellIx) :
    entryTableFault b i =
      if (b.poll[i]).used = false then none
      else if (b.poll[i]).period ≤ (b.poll[i]).phase then some .phase
      else if ∀ n, nodeIx? (b.poll[i]).node = some n → (b.node[n]).present = false then some .node
      else if ∃ j : CellIx, j < i ∧ (b.poll[j]).used = true ∧ (b.poll[j]).key = (b.poll[i]).key then some .key
      else if 256 < runningTotal b i then some .words
      else none := by
  refine if_ctx_congr Iff.rfl (fun _ => rfl) fun hused => if_congr Iff.rfl rfl <|
    if_congr any_present_eq_false_iff rfl <| if_congr any_sameKey_iff rfl <| if_congr ?_ rfl rfl
  rw [runningTotal_of_used (Bool.eq_true_of_not_eq_false hused)]
  rfl

theorem key_eq_iff {e e' : PollEntry} :
    e.key = e'.key ↔ e.node = e'.node ∧ e.space = e'.space ∧ e.address = e'.address ∧ e.count = e'.count := by
  simp only [PollEntry.key, PollKey.mk.injEq]

/-- One check is passed together with those after it. -/
theorem check_ite_eq_none_iff {c : Prop} [Decidable c] {d : TableFault} {rest : Option TableFault} :
    (if c then some d else rest) = none ↔ ¬ c ∧ rest = none := by
  split <;> simp [*]

/-- An entry passes every check where it is not used, or where R120 finds nothing to refuse. -/
theorem entryTableFault_eq_none_iff {b : Tables} {i : CellIx} :
    entryTableFault b i = none ↔
      ((b.poll[i]).used = true →
        (b.poll[i]).phase < (b.poll[i]).period ∧
          (∃ n, nodeIx? (b.poll[i]).node = some n ∧ (b.node[n]).present = true) ∧
          (∀ j : CellIx, j < i → (b.poll[j]).used = true →
            ¬ ((b.poll[j]).node = (b.poll[i]).node ∧ (b.poll[j]).space = (b.poll[i]).space ∧
              (b.poll[j]).address = (b.poll[i]).address ∧ (b.poll[j]).count = (b.poll[i]).count)) ∧
          runningTotal b i ≤ 256) := by
  by_cases hused : (b.poll[i]).used = false
  · rw [entryTableFault_eq, if_pos hused]
    exact iff_of_true rfl fun h => absurd (hused.symm.trans h) Bool.false_ne_true
  · rw [entryTableFault_eq, if_neg hused]
    simp only [Bool.eq_true_of_not_eq_false hused, true_imp_iff, check_ite_eq_none_iff, key_eq_iff, not_le, not_lt,
      not_forall, not_exists, not_and, exists_prop, Bool.not_eq_false, and_true]

/-! ### The fault reported (R120) -/

theorem tablesFault_eq_findSome? (b : Tables) :
    tablesFault b = Fin.findSome? fun i => (entryTableFault b i).map fun d => (d, i) :=
  (Fin.findSome?_eq_findSome?_finRange _).symm

/-- The checks pass where every entry passes them. -/
theorem tablesFault_eq_none_iff {b : Tables} : tablesFault b = none ↔ ∀ i, entryTableFault b i = none := by
  rw [tablesFault_eq_findSome?, Fin.findSome?_eq_none_iff]
  simp only [Option.map_eq_none_iff]

/-- The fault reported is that of the lowest entry with one. -/
theorem tablesFault_eq_some_iff {b : Tables} {d : TableFault} {i : CellIx} :
    tablesFault b = some (d, i) ↔
      entryTableFault b i = some d ∧ ∀ j : CellIx, j < i → entryTableFault b j = none := by
  rw [tablesFault_eq_findSome?, Fin.findSome?_eq_some_iff]
  simp only [Option.map_eq_some_iff, Option.map_eq_none_iff, Prod.mk.injEq]
  constructor
  · rintro ⟨_, ⟨_, hd, rfl, rfl⟩, hbelow⟩
    exact ⟨hd, hbelow⟩
  · rintro ⟨hd, hbelow⟩
    exact ⟨i, ⟨d, hd, rfl, rfl⟩, hbelow⟩

/-- The checks of R120 with the detail codes of R134. -/
theorem entryTableFault_code (b : Tables) (i : CellIx) :
    (entryTableFault b i).map TableFault.code =
      if (b.poll[i]).used = false then none
      else if (b.poll[i]).period ≤ (b.poll[i]).phase then some 1#8
      else if ∀ n, nodeIx? (b.poll[i]).node = some n → (b.node[n]).present = false then some 2#8
      else if ∃ j : CellIx, j < i ∧ (b.poll[j]).used = true ∧ (b.poll[j]).key = (b.poll[i]).key then some 3#8
      else if 256 < runningTotal b i then some 4#8
      else none := by
  simp only [entryTableFault_eq, apply_ite (Option.map TableFault.code)]
  rfl

/-- Settles O29. -/
theorem commitBecomesPendingWhenChecksPass : Obligations.CommitBecomesPendingWhenChecksPass := by
  refine ⟨fun t f s hs hp => ?_, fun b => ?_, fun b d i => tablesFault_eq_some_iff, entryTableFault_code⟩
  · have hexec {u : State} (h : ownCommit f (s.atFrame t) = u) : exec (.commit t f) s = .next (decideA u) :=
      exec_manage_of_owner (code := .commit) hs hp h
    refine ⟨fun h => ?_, fun id tag h => ?_, fun id expiry h hid => ?_, fun id expiry d i h hid hd => ?_,
      fun id expiry h hid hd => ?_⟩
    · exact hexec (ownCommit_of_closed f h)
    · exact hexec (ownCommit_of_pending f h)
    · exact hexec (ownCommit_of_otherId h hid)
    · exact hexec (ownCommit_of_fault h hid hd)
    · exact hexec (ownCommit_of_passed h hid hd)
  · exact tablesFault_eq_none_iff.trans (forall_congr' fun i => entryTableFault_eq_none_iff)

end Sys2Proof.Machine
end

section
/-! PROOF. Direct frames as bytes on port A, and the frames sent on B: what is laid out is taken back as its command, and
a relayed EPOCH_SET is advanced by its residence time (R103, R128 to R132, R137, R146, R147). -/

namespace Sys2Proof.Machine

/-! ### A direct frame read back (R131, R132) -/

/-- An ABORT is read back from its bytes. -/
theorem parseDownstream_abort (segment : Fin 16) (f : AbortFrame) :
    parseDownstream (downstreamBytes segment (.abort f)) = .abort f := by
  have hlong : ¬ (downstreamBytes segment (.abort f)).length < 7 := by
    simp [downstreamBytes, downstreamCovered]
  have hflags : flagsOf (downstreamBytes segment (.abort f)) = f.flags := segmentFlags_flags segment f.flags
  unfold parseDownstream
  rw [coveredBytes_downstreamBytes, hflags]
  exact (if_neg (show kindAbort ≠ kindRead by decide)).trans
    ((if_neg (show kindAbort ≠ kindWrite by decide)).trans ((if_pos rfl).trans (if_neg hlong)))

/-! ### A direct frame on port A (R88, R146, R153) -/

/-- A frame that carries the controller's own segment number goes to Intake, or to the DOWN relay in REPEATER mode. -/
theorem sortDownstream_direct (t : Arrival) {p : Downstream} (hp : p ≠ .short) (s : State)
    (hparse : parseDownstream (downstreamBytes s.segment p) = p) :
    sortDownstream t (downstreamBytes s.segment p) s =
      if s.repeater then relayDown (downstreamBytes s.segment p) (arrivalInstant t s) s else intakeDirect t p s := by
  rw [sortDownstream, segmentOf_downstreamBytes s.segment hp, hparse, if_pos rfl]

/-- The bytes of a direct frame are taken as the frame of its fields. -/
theorem exec_aFrameReceived_direct (t : Arrival) {p : Downstream} (hp : p ≠ .short) (s : State)
    (hparse : parseDownstream (downstreamBytes s.segment p) = p) :
    exec (.aFrameReceived t { symbolsValid := true, bytes := downstreamBytes s.segment p }) s =
      .next (takeDirect t p (intakeDirect t p) s) := by
  have hsort : sortDownstream t (downstreamBytes s.segment p) (bump .aReceived (advance t.elapsed s)) = _ :=
    sortDownstream_direct t hp (bump .aReceived (advance t.elapsed s)) hparse
  change Host.Outcome.next (running t.elapsed (takeA t _) s) = _
  rw [takeDirect, running, running, takeA_downstreamBytes t s.segment hp, hsort]
  rfl

/-- Settles O11: the bytes read back as the fields, and Intake's dispatch of a direct request is the command's. -/
theorem requestBytesAreTheirCommands : Obligations.RequestBytesAreTheirCommands := by
  refine ⟨fun op t f s => ?_, fun t f s =>
    exec_aFrameReceived_direct t (by simp) s (parseDownstream_abort s.segment f)⟩
  rw [exec_aFrameReceived_direct t (by simp) s (parseDownstream_request s.segment op f)]
  cases op <;> rfl

/-! ### MANAGE frames by their code (R103, R137) -/

/-- The codes of R137 differ, so each byte names its own. -/
theorem ofByte?_byte (code : ManageCode) : ManageCode.ofByte? code.byte = some code := by
  cases code <;> decide

/-- A direct MANAGE command hands its fields to the owner of its code. -/
theorem exec_manageInstr_eq_takeDirect (code : ManageCode) (t : Arrival) (f : ManageFrame) (s : State) :
    exec (manageInstr code t f) s =
      .next (takeDirect t (.manage code.byte f) (intakeManage code (ownerOf code t) f) s) := by
  cases code <;> rfl

theorem intakeDirect_manage_known (t : Arrival) (code : ManageCode) (f : ManageFrame) :
    intakeDirect t (.manage code.byte f) = intakeManage code (ownerOf code t) f := by
  funext s
  rw [intakeDirect, intakeManageCode, ofByte?_byte]

theorem intakeDirect_manage_unknown (t : Arrival) {code : Byte} (h : ManageCode.ofByte? code = none) (f : ManageFrame) :
    intakeDirect t (.manage code f) = intakeUnknown code f := by
  funext s
  rw [intakeDirect, intakeManageCode, h]

/-- Settles O12: the bytes read back as the fields, and the code byte finds its command or none. -/
theorem manageBytesAreTheirCommands : Obligations.ManageBytesAreTheirCommands := by
  refine ⟨fun code t f s => ?_, fun code t f s h => ?_⟩
  · rw [exec_aFrameReceived_direct t (by simp) s (parseDownstream_manage s.segment code.byte f),
      intakeDirect_manage_known, exec_manageInstr_eq_takeDirect]
  · rw [exec_aFrameReceived_direct t (by simp) s (parseDownstream_manage s.segment code f),
      intakeDirect_manage_unknown t h]
    rfl

/-! ### The residence correction (R129, R147) -/

/-- Six bytes carry the 48-bit number that was laid out in them (R128). -/
theorem word48_be48 (w : BitVec 48) : word48 (be48 w) = w := by
  have hw := w.isLt
  apply BitVec.eq_of_toNat_eq
  simp only [word48, be48, be32, be16, List.cons_append, List.nil_append, List.foldl_cons, List.foldl_nil,
    BitVec.toNat_ofNat, BitVec.extractLsb'_toNat, Nat.shiftRight_eq_div_pow]
  omega

/-- The frames that R147 corrects are 14 bytes long. -/
theorem length_of_isRelayedEpochSet {frame : List Byte} (h : isRelayedEpochSet frame = true) : frame.length = 14 := by
  simp only [isRelayedEpochSet, Bool.and_eq_true, beq_iff_eq] at h
  obtain ⟨⟨⟨-, hlength⟩, -⟩, -⟩ := h
  exact hlength

/-- The value a relayed EPOCH_SET leaves with: what it carried, advanced by its residence time modulo 2^48 (R147). -/
def correctedValue (now : Stamp) (f : DownFrame) : Stamp :=
  word48 ((f.bytes.drop 6).take 6) + (now - f.arrival)

theorem relayedBytes_of_epochSet {f : DownFrame} (h : isRelayedEpochSet f.bytes = true) (now : Stamp) :
    relayedBytes now f = withCheck (f.bytes.take 6 ++ be48 (correctedValue now f)) :=
  if_pos h

theorem relayedBytes_of_other {f : DownFrame} (h : isRelayedEpochSet f.bytes = false) (now : Stamp) :
    relayedBytes now f = f.bytes :=
  if_neg (by rw [h]; exact Bool.false_ne_true)

/-- A corrected frame: its length, the bytes before the value, the value, and the check. -/
theorem relayedEpochSet_fields {f : DownFrame} (h : isRelayedEpochSet f.bytes = true) (now : Stamp) :
    (relayedBytes now f).length = 14 ∧ (relayedBytes now f).take 6 = f.bytes.take 6 ∧
      word48 (((relayedBytes now f).drop 6).take 6) = correctedValue now f ∧
      checkHolds (relayedBytes now f) = true := by
  have hhead : (f.bytes.take 6).length = 6 := by simp [length_of_isRelayedEpochSet h]
  have hvalue : (be48 (correctedValue now f)).length = 6 := be48_length _
  rw [relayedBytes_of_epochSet h]
  refine ⟨?_, ?_, ?_, checkHolds_withCheck _⟩
  · rw [withCheck_length, List.length_append, hhead, hvalue]
  · rw [withCheck, List.append_assoc, List.take_left' hhead]
  · rw [withCheck, List.append_assoc, List.drop_left' hhead, List.take_left' hvalue, word48_be48]

/-! ### The end of a transmission on B (R146) -/

theorem exec_bTransmitEnd {s : State} (h : s.held = none) (us : Nat) :
    exec (.bTransmitEnd us) s = .next (transmissionBEnds (advance us s)) :=
  congrArg Host.Outcome.next (running_of_not_held h us transmissionBEnds)

/-- An empty DOWN relay queue leaves the B transmitter as it is. -/
theorem startB_of_empty {s : State} (h : s.trunk.downQueue = []) : startB s = s := by
  unfold startB
  rw [h]
  split
  · next hq => cases hq
  · rfl

/-- An idle B transmitter of a port that is UP takes the head of the queue. -/
theorem startB_of_head {s : State} {next : DownFrame} {rest : List DownFrame} (hup : s.trunk.bUp = true)
    (htx : s.trunk.bTx = none) (hq : s.trunk.downQueue = next :: rest) :
    startB s =
      { s with trunk := { s.trunk with downQueue := rest, bTx := some (relayedBytes s.time.clock next) } } := by
  unfold startB
  rw [hup, htx, hq]

theorem transmissionBEnds_of_some {s : State} (h : s.trunk.bTx.isSome = true) :
    transmissionBEnds s = startB (bump .downRelayed { s with trunk := { s.trunk with bTx := none } }) :=
  if_pos h

theorem transmissionBEnds_of_none {s : State} (h : s.trunk.bTx = none) : transmissionBEnds s = s :=
  if_neg (by rw [h]; exact Bool.false_ne_true)

/-- Settles O7. -/
theorem bTransmitEndCountsAndTakesNextFrame : Obligations.BTransmitEndCountsAndTakesNextFrame := by
  refine ⟨⟨fun us s hh hup htx hq => ?_, fun us next rest s hh hup htx hq => ?_, fun us s hh htx => ?_⟩,
    fun now f => ⟨fun h => relayedEpochSet_fields h now, fun h => relayedBytes_of_other h now⟩⟩ <;>
    rw [exec_bTransmitEnd hh]
  · rw [transmissionBEnds_of_some (s := advance us s) htx, startB_of_empty (by exact hq)]
    rfl
  · rw [transmissionBEnds_of_some (s := advance us s) htx,
      startB_of_head (next := next) (rest := rest) (by exact hup) rfl (by exact hq)]
    rfl
  · rw [transmissionBEnds_of_none (s := advance us s) htx]

end Sys2Proof.Machine
end

section
/-! PROOF. What the reading requests report, and the requests to the Notice Queue: NODE_READ, CELL_READ, STATUS_READ,
COUNTERS_READ, NOTICE_ACK and NOTICE_MASK (R63, R82, R104, R138 to R140, R156, R160, R165, R166, R173). -/

namespace Sys2Proof.Machine

/-! ### What a result gives for a value that is absent (R139) -/

/-- Six bytes of 0 stand for an absent stamp. -/
theorem optStamp_eq (x : Option Stamp) :
    optStamp x =
      match x with
      | some stamp => .hostTime stamp
      | none => .raw [0#8, 0#8, 0#8, 0#8, 0#8, 0#8] := by
  cases x <;> rfl

/-- The age of a cell in whole ms, saturating, and 0 for a cell never updated. -/
theorem cellAge_eq (x : Option Stamp) (now : Stamp) :
    (x.map fun stamp => wholeMs stamp now).getD 0#16 =
      match x with
      | some stamp => BitVec.ofNat 16 (min 65535 ((now - stamp).toNat / 1000))
      | none => 0#16 := by
  cases x <;> rfl

theorem cellFailure_eq (x : Option (Status × Byte)) :
    (x.map fun failure => [failure.1.code, failure.2]).getD [0#8, 0#8] =
      match x with
      | some (status, detail) => [status.code, detail]
      | none => [0#8, 0#8] := by
  cases x <;> rfl

/-! ### NODE_READ (R63) -/

theorem ownNodeRead_of_node {f : ManageFrame} {n : NodeIx} (h : (argByte f 0).toNat = n.val + 1) (s : State) :
    ownNodeRead f s = answer f.tag f.node .ok 0#8 (nodeReadResult n s) s := by
  rw [ownNodeRead, argNode_eq_some h]
  rfl

theorem ownNodeRead_of_outside {f : ManageFrame} (h : argByte f 0 = 0#8 ∨ 30 < (argByte f 0).toNat) (s : State) :
    ownNodeRead f s = answer f.tag f.node .badRequest 11#8 [] s := by
  rw [ownNodeRead, argNode_eq_none h]
  rfl

/-! ### CELL_READ (R82) -/

theorem ownCellRead_of_cell {f : ManageFrame} {i : CellIx} (h : (argByte f 0).toNat = i.val) (s : State) :
    ownCellRead f s = answer f.tag f.node .ok 0#8 (cellReadResult i s) s := by
  have hcell : (⟨(argByte f 0).toNat, by omega⟩ : CellIx) = i := Fin.ext h
  rw [ownCellRead, dif_pos (by omega), hcell]
  rfl

theorem ownCellRead_of_outside {f : ManageFrame} (h : 63 < (argByte f 0).toNat) (s : State) :
    ownCellRead f s = answer f.tag f.node .badRequest 11#8 [] s := by
  rw [ownCellRead, dif_neg (by omega)]
  rfl

/-- An entry is LISTED while it is in the due list, and ACTIVE while its poll is the engine's (R82). -/
theorem calendarPosition_eq (s : State) (i : CellIx) :
    calendarPosition s i =
      (if i ∈ s.calendar.dueList then 1#8 else 0#8) +
        (if pollActive s (s.config.active.poll[i]).key then 2#8 else 0#8) := by
  simp only [calendarPosition, List.contains_iff_mem]

/-- Settles O30. -/
theorem nodeReadAndCellReadReturnRecords : Obligations.NodeReadAndCellReadReturnRecords := by
  refine ⟨fun t f n h e s hs hp harg hh he => exec_manage_of_owner (code := .nodeRead) hs hp ?_,
    fun t f s hs hp harg => exec_manage_of_owner (code := .nodeRead) hs hp (ownNodeRead_of_outside harg _),
    fun t f i c e s hs hp harg hc he => exec_manage_of_owner (code := .cellRead) hs hp ?_,
    fun t f s hs hp harg => exec_manage_of_owner (code := .cellRead) hs hp (ownCellRead_of_outside harg _)⟩
  · subst hh he
    refine (ownNodeRead_of_node harg _).trans ?_
    rw [nodeReadResult, ← harg, BitVec.ofNat_toNat, BitVec.setWidth_eq, optStamp_eq, optStamp_eq]
    rfl
  · subst hc he
    refine (ownCellRead_of_cell harg _).trans ?_
    rw [cellReadResult, ← harg, BitVec.ofNat_toNat, BitVec.setWidth_eq, optStamp_eq, optStamp_eq, cellAge_eq,
      cellFailure_eq, calendarPosition_eq]
    rfl

/-! ### STATUS_READ and COUNTERS_READ (R138 to R140, R173) -/

/-- Part 1 answers from the snapshot that its own capture holds (R140). -/
theorem ownCountersRead_of_capture {f : ManageFrame} (hpart : argByte f 1 = 1#8)
    (hclear : argByte f 0 = 0#8 ∨ argByte f 0 = 1#8) (s : State) :
    ownCountersRead f s =
      answer f.tag f.node .ok 0#8 (countersResult 1#8 0 (capture (argByte f 0 == 1#8) s))
        (capture (argByte f 0 == 1#8) s) :=
  if_pos ⟨hpart, hclear⟩

/-- Part 2 answers from the snapshot held (R140). -/
theorem ownCountersRead_of_held {f : ManageFrame} (hpart : argByte f 1 = 2#8) (hclear : argByte f 0 = 0#8) (s : State) :
    ownCountersRead f s = answer f.tag f.node .ok 0#8 (countersResult 2#8 12 s) s := by
  have hnot : ¬ (argByte f 1 = 1#8 ∧ (argByte f 0 = 0#8 ∨ argByte f 0 = 1#8)) := fun h =>
    absurd (hpart.symm.trans h.1) (by decide)
  exact (if_neg hnot).trans (if_pos ⟨hpart, hclear⟩)

/-- The counters are zeroed exactly where the clear byte is 1 (R140). -/
theorem capture_clear (clear : Byte) (s : State) :
    capture (clear == 1#8) s =
      { s with
        status :=
          { s.status with
            snapshot := s.status.counters, snapshotAt := s.time.clock
            counters := if clear = 1#8 then Vector.replicate 24 0#32 else s.status.counters } } := by
  simp only [capture, beq_iff_eq]

/-- Settles O37: what STATUS_READ reports is `statusBytes` written out. -/
theorem statusAndCountersAreReported : Obligations.StatusAndCountersAreReported := by
  refine ⟨fun t f s hs hp => exec_manage_of_owner (code := .statusRead) hs hp rfl, fun t f s hs hp => ?_⟩
  have hexec {u : State} (h : ownCountersRead f (s.atFrame t) = u) : exec (.countersRead t f) s = .next (decideA u) :=
    exec_manage_of_owner (code := .countersRead) hs hp h
  refine ⟨fun h1 h0 => hexec ?_, fun h1 h0 => hexec (ownCountersRead_of_held h1 h0 _),
    fun h1 h2 => hexec ((if_neg h1).trans (if_neg h2))⟩
  rw [ownCountersRead_of_capture h1 h0, capture_clear]
  rfl

/-! ### NOTICE_ACK (R156, R160, R165) -/

/-- The loss record is looked at before the ordinary ones. -/
theorem inFlight_of_loss {q : NoticeQueue} {r : NoticeRecord} {x : Flight} (hr : q.loss = some r)
    (hx : r.flight = some x) : q.inFlight = some r := by
  simp [NoticeQueue.inFlight, hr, hx]

theorem flightSequence_of_flight {q : NoticeQueue} {x : Flight} (h : q.inFlight.bind NoticeRecord.flight = some x) :
    q.flightSequence = some x.sequence := by
  rw [NoticeQueue.flightSequence, h, Option.map_some]

theorem flightSequence_of_none {q : NoticeQueue} (h : q.inFlight = none) : q.flightSequence = none := by
  rw [NoticeQueue.flightSequence, h]
  rfl

/-- An acknowledged loss record makes way for the held loss (R160). -/
theorem acknowledge_of_loss {q : NoticeQueue} {r : NoticeRecord} {x : Flight} (hr : q.loss = some r)
    (hx : r.flight = some x) :
    q.acknowledge =
      { q with
        resend := none, resendDue := false, heldLoss := none, loss := q.heldLoss.map HeldLoss.record } :=
  if_pos (by simp [hr, hx])

/-- An acknowledged ordinary record leaves the list (R165). -/
theorem acknowledge_of_ordinary {q : NoticeQueue} (h : q.loss.all (fun r => r.flight.isNone) = true) :
    q.acknowledge =
      { q with
        resend := none, resendDue := false, ordinary := q.ordinary.eraseP (fun r => r.flight.isSome) } := by
  refine if_neg ?_
  cases hl : q.loss with
  | none => simp
  | some r =>
    rw [hl] at h
    simpa using h

theorem ownNoticeAck_of_sequence {f : ManageFrame} {s : State} (h : s.notices.flightSequence = some (argByte f 0)) :
    ownNoticeAck f s = answer f.tag f.node .ok 0#8 [] { s with notices := s.notices.acknowledge } :=
  if_pos h

theorem ownNoticeAck_of_none {s : State} (f : ManageFrame) (h : s.notices.inFlight = none) :
    ownNoticeAck f s = answer f.tag f.node .staleAck 0#8 [.raw [0#8, 0#8]] s := by
  rw [ownNoticeAck, staleResult, flightSequence_of_none h, if_neg (Option.some_ne_none _).symm]
  rfl

theorem ownNoticeAck_of_other {f : ManageFrame} {s : State} {x : Flight}
    (h : s.notices.inFlight.bind NoticeRecord.flight = some x) (hne : x.sequence ≠ argByte f 0) :
    ownNoticeAck f s = answer f.tag f.node .staleAck 0#8 [.raw [1#8, x.sequence]] s := by
  rw [ownNoticeAck, staleResult, flightSequence_of_flight h, if_neg (fun he => hne (Option.some.inj he))]
  rfl

/-! ### NOTICE_MASK (R166) -/

/-- The kinds that may be masked are bits 5 to 11. -/
theorem maskable_getLsbD (k : Nat) : maskable.getLsbD k = true ↔ 5 ≤ k ∧ k ≤ 11 := by
  by_cases hk : k < 16
  · have hbits : ∀ j : Fin 16, maskable.getLsbD j.val = true ↔ 5 ≤ j.val ∧ j.val ≤ 11 := by decide
    exact hbits ⟨k, hk⟩
  · rw [BitVec.getLsbD_of_ge _ _ (by omega)]
    simp only [Bool.false_eq_true, false_iff]
    omega

/-- A mask passes where each of its bits is one of 5 to 11. -/
theorem mask_outside_eq_zero_iff (mask : BitVec 16) :
    mask &&& ~~~maskable = 0#16 ↔ ∀ k : Nat, mask.getLsbD k = true → 5 ≤ k ∧ k ≤ 11 := by
  constructor
  · intro h k hk
    have hlt := BitVec.lt_of_getLsbD hk
    have hbit : (mask &&& ~~~maskable).getLsbD k = false := by rw [h, BitVec.getLsbD_zero]
    rw [BitVec.getLsbD_and, BitVec.getLsbD_not, hk] at hbit
    exact (maskable_getLsbD k).1 (by simpa [hlt] using hbit)
  · intro h
    refine BitVec.eq_of_getLsbD_eq fun k hk => ?_
    rw [BitVec.getLsbD_and, BitVec.getLsbD_not, BitVec.getLsbD_zero]
    cases hm : mask.getLsbD k with
    | false => rfl
    | true => simp [(maskable_getLsbD k).2 (h k hm)]

theorem ownNoticeMask_of_passed {f : ManageFrame} (h : maskOf f &&& ~~~maskable = 0#16) (s : State) :
    ownNoticeMask f s =
      answer f.tag f.node .ok 0#8 [.raw [argByte f 0, argByte f 1]]
        { s with notices := s.notices.putMask (maskOf f) } := by
  rw [ownNoticeMask, if_neg (not_not.2 h), maskOf, be16_word16, reply]

theorem ownNoticeMask_of_refused {f : ManageFrame} (h : maskOf f &&& ~~~maskable ≠ 0#16) (s : State) :
    ownNoticeMask f s = answer f.tag f.node .badRequest 11#8 [] s :=
  if_pos h

/-- Settles O35. -/
theorem noticeAckAndMaskChangeTheQueue : Obligations.NoticeAckAndMaskChangeTheQueue := by
  refine ⟨fun t f s hs hp => ?_, fun t f mask s hs hp hmask => ?_⟩
  · have hexec {u : State} (h : ownNoticeAck f (s.atFrame t) = u) : exec (.noticeAck t f) s = .next (decideA u) :=
      exec_manage_of_owner (code := .noticeAck) hs hp h
    refine ⟨fun r x hr hx hseq => hexec ?_, fun x hloss hx hseq => hexec ?_,
      fun h => hexec (ownNoticeAck_of_none (s := s.atFrame t) f h),
      fun x hx hne => hexec (ownNoticeAck_of_other (s := s.atFrame t) hx hne)⟩
    · have hflight : s.notices.inFlight.bind NoticeRecord.flight = some x := by
        rw [inFlight_of_loss hr hx, Option.bind_some, hx]
      rw [ownNoticeAck_of_sequence (s := s.atFrame t) ((flightSequence_of_flight hflight).trans (congrArg some hseq)),
        acknowledge_of_loss (q := (s.atFrame t).notices) hr hx]
      rfl
    · rw [ownNoticeAck_of_sequence (s := s.atFrame t) ((flightSequence_of_flight hx).trans (congrArg some hseq)),
        acknowledge_of_ordinary (q := (s.atFrame t).notices) hloss]
      rfl
  · have hexec {u : State} (h : ownNoticeMask f (s.atFrame t) = u) : exec (.noticeMask t f) s = .next (decideA u) :=
      exec_manage_of_owner (code := .noticeMask) hs hp h
    subst hmask
    refine ⟨fun h => hexec (ownNoticeMask_of_passed ((mask_outside_eq_zero_iff _).2 h) _),
      fun ⟨k, hk, hout⟩ => hexec (ownNoticeMask_of_refused (fun h => ?_) _)⟩
    have hin := (mask_outside_eq_zero_iff _).1 h k hk
    omega

end Sys2Proof.Machine
end

section
/-! PROOF. The A-transmit arbiter's decision: the claimant it finds in cyclic order, what each grant sends, which notice
ranks first, and the BROADCAST heads that leave before it (R135, R136, R150, R151, R157, R161, R162). -/

namespace Sys2Proof.Machine

/-! ### The claimant found in cyclic order (R150) -/

/-- A claimant has a grant exactly where it waits. -/
theorem grantOf_isSome (c : UpClaimant) (s : State) : (grantOf c s).isSome = c.waits s := by
  cases c with
  | upRelay => cases h : s.trunk.upQueue <;> simp [grantOf, grantRelay, UpClaimant.waits, h]
  | upstream => cases h : s.trunk.upstream <;> simp [grantOf, grantUpstream, UpClaimant.waits, h]
  | notice => cases h : offered s <;> simp [grantOf, grantNotice, UpClaimant.waits, h]

theorem grantOf_of_not_waits {c : UpClaimant} {s : State} (h : c.waits s = false) : grantOf c s = none :=
  Option.not_isSome_iff_eq_none.1 (by rw [grantOf_isSome, h]; exact Bool.false_ne_true)

/-- The three claimants are examined in the order that the marker gives. -/
theorem grantCyclic_eq_findSome? (s : State) :
    grantCyclic s = (s.trunk.marker.order.findSome? (fun c => grantOf c s)).getD s := by
  have horder : s.trunk.marker.order =
      [s.trunk.marker.after, s.trunk.marker.after.after, s.trunk.marker.after.after.after] := by
    cases s.trunk.marker <;> rfl
  rw [grantCyclic, horder]
  cases h1 : grantOf s.trunk.marker.after s with
  | some t => simp [h1]
  | none =>
    cases h2 : grantOf s.trunk.marker.after.after s with
    | some t => simp [h1, h2]
    | none => cases h3 : grantOf s.trunk.marker.after.after.after s <;> simp [h1, h2, h3]

/-- The decision is the grant of the first claimant that waits. -/
theorem grantOf_eq_grantCyclic {c : UpClaimant} {s : State}
    (h : s.trunk.marker.order.find? (fun d => d.waits s) = some c) : grantOf c s = some (grantCyclic s) := by
  obtain ⟨hc, before, after, hsplit, hbefore⟩ := List.find?_eq_some_iff_append.1 h
  obtain ⟨u, hu⟩ := Option.isSome_iff_exists.1 ((grantOf_isSome c s).trans hc)
  have hnone : ∀ d ∈ before, grantOf d s = none := fun d hd =>
    grantOf_of_not_waits (by simpa using hbefore d hd)
  rw [grantCyclic_eq_findSome?, List.findSome?_eq_some_iff.2 ⟨before, c, after, hsplit, hu, hnone⟩, Option.getD_some, hu]

/-- No claimant waits, so none is granted. -/
theorem grantCyclic_of_noneWaits {s : State} (h : s.trunk.marker.order.all (fun d => !d.waits s) = true) :
    grantCyclic s = s := by
  have hnone : ∀ d ∈ s.trunk.marker.order, grantOf d s = none := fun d hd =>
    grantOf_of_not_waits (by simpa using List.all_eq_true.1 h d hd)
  rw [grantCyclic_eq_findSome?, List.findSome?_eq_none_iff.2 hnone, Option.getD_none]

/-! ### BROADCAST heads of the Upstream Queue (R151) -/

theorem headIsBroadcast_slot {i : SlotIx} {frame : Option (List Byte)} {rest : List UpEntry} {s : State}
    (h : s.trunk.upstream = { item := .slot i, frame := frame } :: rest) :
    headIsBroadcast s = isBroadcastSlot s i := by
  rw [headIsBroadcast, h]

/-- A head that is not of origin BROADCAST stays, and all behind it. -/
theorem discardBroadcastHeads_of_head {s : State} (h : headIsBroadcast s = false) :
    discardBroadcastHeads s.trunk.upstream s = s := by
  match hu : s.trunk.upstream with
  | [] => rfl
  | ⟨.immediate r, frame⟩ :: rest => rfl
  | ⟨.slot i, frame⟩ :: rest =>
    exact if_neg (by rw [← headIsBroadcast_slot hu, h]; exact Bool.false_ne_true)

theorem discardBroadcastHeads_slot {i : SlotIx} {s : State} (h : isBroadcastSlot s i = true)
    (frame : Option (List Byte)) (rest : List UpEntry) :
    discardBroadcastHeads ({ item := .slot i, frame := frame } :: rest) s =
      discardBroadcastHeads rest (freeSlot i { s with trunk := { s.trunk with upstream := rest } }) :=
  if_pos h

/-! ### When the arbiter decides (R150) -/

theorem decideA_of_ready {s : State} (hup : s.trunk.aUp = true) (htx : s.trunk.aTx = none) :
    decideA s = grantCyclic (discardBroadcastHeads s.trunk.upstream s) :=
  if_pos (by rw [hup, htx]; rfl)

theorem decideA_of_closed {s : State} (h : s.trunk.aUp = false ∨ s.trunk.aTx.isSome = true) : decideA s = s := by
  refine if_neg fun hready => ?_
  obtain ⟨hup, htx⟩ := Bool.and_eq_true_iff.1 hready
  rcases h with h | h
  · exact Bool.false_ne_true (h.symm.trans hup)
  · simp [Option.isNone_iff_eq_none.1 htx] at h

/-- With no BROADCAST entry at the head, the decision is the grant of the first claimant that waits. -/
theorem grantOf_eq_decideA {c : UpClaimant} {s : State} (hup : s.trunk.aUp = true) (htx : s.trunk.aTx = none)
    (hb : headIsBroadcast s = false) (h : s.trunk.marker.order.find? (fun d => d.waits s) = some c) :
    grantOf c s = some (decideA s) := by
  rw [decideA_of_ready hup htx, discardBroadcastHeads_of_head hb]
  exact grantOf_eq_grantCyclic h

/-! ### What each grant sends (R134, R151, R161) -/

theorem grantOf_upRelay_eq {s u : State} (h : grantOf .upRelay s = some u) :
    u = startA .upRelay (s.trunk.upQueue.headD []) s := by
  replace h : grantRelay s = some u := h
  unfold grantRelay at h
  split at h
  · cases h
  · next frame rest hq => rw [hq]; exact (Option.some.inj h).symm

theorem grantOf_upstream_eq {s u : State} (h : grantOf .upstream s = some u) :
    ∃ e rest, s.trunk.upstream = e :: rest ∧
      u =
        startA .upstream (e.frame.getD (buildFrame s e.item))
          { s with
            trunk :=
              { s.trunk with upstream := { e with frame := some (e.frame.getD (buildFrame s e.item)) } :: rest } } := by
  replace h : grantUpstream s = some u := h
  unfold grantUpstream at h
  split at h
  · cases h
  · next e rest he => exact ⟨e, rest, he, (Option.some.inj h).symm⟩

theorem grantOf_notice_eq {s u : State} (h : grantOf .notice s = some u) :
    u = startA .notice (flightFrame u.notices) { s with notices := u.notices } ∧
      u.notices = if s.notices.inFlight.isSome then { s.notices with resendDue := false } else launchFirst s := by
  replace h : grantNotice s = some u := h
  unfold grantNotice at h
  split at h
  · obtain rfl := Option.some.inj h
    exact ⟨rfl, rfl⟩
  · cases h

/-- The bytes that a grant of a claimant sends: a relayed frame or a reply as the state before it gives, the frame of the
IN_FLIGHT record as the grant leaves it. -/
def sentBytes (c : UpClaimant) (before after : State) : List Byte :=
  match c with
  | .upRelay => before.trunk.upQueue.headD []
  | .upstream => ((before.trunk.upstream.head?).map (fun e => e.frame.getD (buildFrame before e.item))).getD []
  | .notice => flightFrame after.notices

theorem sentBytes_upstream {s : State} {e : UpEntry} {rest : List UpEntry} (h : s.trunk.upstream = e :: rest)
    (after : State) : sentBytes .upstream s after = e.frame.getD (buildFrame s e.item) := by
  rw [sentBytes, h]
  rfl

/-- A grant names its claimant in the marker and sends that claimant's bytes, and takes nothing from a queue. -/
theorem grantOf_sends {c : UpClaimant} {s u : State} (h : grantOf c s = some u) :
    u.trunk.marker = c ∧
      u.trunk.aTx = some { claimant := c, bytes := sentBytes c s u, live := true } ∧
      u.pool = s.pool ∧ u.trunk.upQueue = s.trunk.upQueue ∧
      u.trunk.upstream.map UpEntry.item = s.trunk.upstream.map UpEntry.item ∧ (c ≠ .notice → u.notices = s.notices) := by
  cases c with
  | upRelay =>
    obtain rfl := grantOf_upRelay_eq h
    exact ⟨rfl, rfl, rfl, rfl, rfl, fun _ => rfl⟩
  | upstream =>
    obtain ⟨e, rest, hu, rfl⟩ := grantOf_upstream_eq h
    refine ⟨rfl, by rw [sentBytes_upstream hu]; rfl, rfl, rfl, by rw [hu]; rfl, fun _ => rfl⟩
  | notice =>
    obtain ⟨hu, -⟩ := grantOf_notice_eq h
    rw [hu]
    exact ⟨rfl, rfl, rfl, rfl, rfl, fun hne => absurd rfl hne⟩

/-! ### The IN_FLIGHT record (R136, R157) -/

theorem flightFrame_of_inFlight {q : NoticeQueue} {r : NoticeRecord} {x : Flight} (hr : q.inFlight = some r)
    (hx : r.flight = some x) : flightFrame q = x.frame := by
  simp [flightFrame, hr, hx]

/-- With no record IN_FLIGHT the loss record and every ordinary record are UNSENT. -/
theorem unsent_of_inFlight_none {q : NoticeQueue} (h : q.inFlight = none) :
    (∀ r, q.loss = some r → r.flight = none) ∧ ∀ r ∈ q.ordinary, r.flight = none := by
  have hall := List.find?_eq_none.1 h
  exact ⟨fun r hr => by simpa using hall r (by simp [hr]), fun r hr => by simpa using hall r (by simp [hr])⟩

/-- An ordinary record is the one IN_FLIGHT where the loss record and the records before it are UNSENT. -/
theorem inFlight_of_ordinary {q : NoticeQueue} {before after : List NoticeRecord} {r : NoticeRecord} {x : Flight}
    (hl : ∀ y, q.loss = some y → y.flight = none) (ho : q.ordinary = before ++ r :: after)
    (hb : ∀ y ∈ before, y.flight = none) (hx : r.flight = some x) : q.inFlight = some r := by
  refine List.find?_eq_some_iff_append.2 ⟨by simp [hx], q.loss.toList ++ before, after, by simp [ho], fun y hy => ?_⟩
  rcases List.mem_append.1 hy with hy | hy
  · simp [hl y (by simpa using hy)]
  · simp [hb y hy]

/-! ### The record that ranks first (R157) -/

/-- One record's turn in the search for the UNSENT kind of highest priority. -/
def higherUnsent (best : Option NoticeKind) (r : NoticeRecord) : Option NoticeKind :=
  if r.flight.isSome then best
  else
    match best with
    | none => some r.kind
    | some k => if r.kind.code < k.code then some r.kind else best

theorem topUnsentKind_eq (l : List NoticeRecord) : topUnsentKind l = l.foldl higherUnsent none := rfl

/-- A record's turn leaves the best kind so far, or puts its own in its place. -/
theorem higherUnsent_cases (best : Option NoticeKind) (r : NoticeRecord) :
    higherUnsent best r = best ∨ higherUnsent best r = some r.kind := by
  unfold higherUnsent
  repeat' split
  all_goals simp

/-- The kind that the search ends with is its first candidate or a record's. -/
theorem foldl_higherUnsent {l : List NoticeRecord} {best : Option NoticeKind} {k : NoticeKind}
    (h : l.foldl higherUnsent best = some k) : best = some k ∨ ∃ r ∈ l, r.kind = k := by
  induction l generalizing best with
  | nil => exact .inl h
  | cons r l ih =>
    rcases ih h with hbest | ⟨r', hr', hk⟩
    · rcases higherUnsent_cases best r with e | e
      · exact .inl (e ▸ hbest)
      · exact .inr ⟨r, List.mem_cons_self, Option.some.inj (e.symm.trans hbest)⟩
    · exact .inr ⟨r', List.mem_cons_of_mem _ hr', hk⟩

/-- Records of no higher priority leave the candidate in its place. -/
theorem foldl_higherUnsent_of_le {l : List NoticeRecord} {k : NoticeKind} (h : ∀ y ∈ l, k.code ≤ y.kind.code) :
    l.foldl higherUnsent (some k) = some k := by
  induction l with
  | nil => rfl
  | cons r l ih =>
    have hturn : higherUnsent (some k) r = some k := by
      simp [higherUnsent, Nat.not_lt.2 (h r List.mem_cons_self)]
    rw [List.foldl_cons, hturn]
    exact ih fun y hy => h y (List.mem_cons_of_mem _ hy)

/-- An UNSENT record of higher priority than those before it, and not lower than those after it, gives the kind. -/
theorem topUnsentKind_of_first {before after : List NoticeRecord} {r : NoticeRecord} (hr : r.flight = none)
    (hb : ∀ y ∈ before, r.kind.code < y.kind.code) (ha : ∀ y ∈ after, r.kind.code ≤ y.kind.code) :
    topUnsentKind (before ++ r :: after) = some r.kind := by
  have hturn : higherUnsent (before.foldl higherUnsent none) r = some r.kind := by
    cases hbest : before.foldl higherUnsent none with
    | none => simp [higherUnsent, hr]
    | some k =>
      obtain ⟨y, hy, rfl⟩ := (foldl_higherUnsent hbest).resolve_left (by simp)
      simp [higherUnsent, hr, hb y hy]
  rw [topUnsentKind_eq, List.foldl_append, List.foldl_cons, hturn, foldl_higherUnsent_of_le ha]

/-- The element changed is the first that satisfies the predicate. -/
theorem modifyFirst_append {α : Type} {p : α → Bool} (f : α → α) {before : List α} {x : α} (after : List α)
    (hb : ∀ y ∈ before, p y = false) (hx : p x = true) :
    modifyFirst p f (before ++ x :: after) = before ++ f x :: after := by
  induction before with
  | nil => exact if_pos hx
  | cons y before ih =>
    have hy : p y = false := hb y List.mem_cons_self
    rw [List.cons_append, modifyFirst, hy, ih fun z hz => hb z (List.mem_cons_of_mem _ hz)]
    rfl

/-! ### The first grant of a notice (R160, R162) -/

theorem launch_flight (s : State) (r : NoticeRecord) :
    (r.launch s).flight =
      some
        { sequence := s.notices.nextSequence, frame := noticeFrame s r s.notices.nextSequence, sentBefore := false } :=
  rfl

/-- The loss record is launched where no RESET_DONE waits. -/
theorem launchFirst_loss {s : State} {r : NoticeRecord} (hl : s.notices.loss = some r) (hr : r.flight = none)
    (ho : ∀ y ∈ s.notices.ordinary, y.kind ≠ .resetDone) :
    launchFirst s =
      { s.notices with nextSequence := s.notices.nextSequence + 1#8, loss := some (r.launch s) } := by
  have htop : topUnsentKind s.notices.ordinary ≠ some .resetDone := fun htop => by
    obtain ⟨y, hy, hk⟩ := (foldl_higherUnsent htop).resolve_left (by simp)
    exact ho y hy hk
  have hrank : lossRanksFirst s.notices = true := by simp [lossRanksFirst, hl, hr, htop]
  rw [launchFirst, if_pos hrank, hl]
  rfl

/-- The ordinary record that ranks first is launched where no loss record waits, or where it is RESET_DONE. -/
theorem launchFirst_ordinary {s : State} {before after : List NoticeRecord} {r : NoticeRecord}
    (ho : s.notices.ordinary = before ++ r :: after) (hr : r.flight = none)
    (hl : s.notices.loss = none ∨ r.kind = .resetDone) (hb : ∀ y ∈ before, r.kind.code < y.kind.code)
    (ha : ∀ y ∈ after, r.kind.code ≤ y.kind.code) :
    launchFirst s =
      { s.notices with
        nextSequence := s.notices.nextSequence + 1#8, ordinary := before ++ r.launch s :: after } := by
  have htop : topUnsentKind s.notices.ordinary = some r.kind := ho ▸ topUnsentKind_of_first hr hb ha
  have hrank : lossRanksFirst s.notices = false := by
    rcases hl with hl | hk
    · simp [lossRanksFirst, hl]
    · simp [lossRanksFirst, htop, hk]
  have hmodified : modifyFirst (NoticeRecord.unsentOf r.kind) (NoticeRecord.launch s) s.notices.ordinary =
      before ++ r.launch s :: after := by
    rw [ho]
    refine modifyFirst_append _ after (fun y hy => ?_) (by simp [NoticeRecord.unsentOf, hr])
    have hne : y.kind ≠ r.kind := fun he => Nat.lt_irrefl _ (he ▸ hb y hy)
    simp [NoticeRecord.unsentOf, hne]
  rw [launchFirst, hrank, htop]
  exact congrArg
    (fun l => ({ s.notices with nextSequence := s.notices.nextSequence + 1#8, ordinary := l } : NoticeQueue)) hmodified

/-- The frame of a notice, field by field (R135, R136). -/
theorem noticeFrame_eq (s : State) (r : NoticeRecord) (sequence : Byte) :
    noticeFrame s r sequence =
      withCheck
        ([0x82#8, BitVec.ofNat 8 (s.segment.val * 16), 0#8, 0#8, sequence, BitVec.ofNat 8 r.kind.code,
            match r.node with
            | some a => BitVec.ofNat 8 a.val
            | none => 0#8] ++
          be16 r.detail ++ [BitVec.ofNat 8 r.repeats] ++ be48 (r.first + s.time.epoch) ++
          be48 (r.last + s.time.epoch)) := by
  rw [noticeFrame, ownHeader, segmentFlags_zero]
  cases r.node <;> rfl

/-! ### Which notice a grant sends (R157, R161, R162) -/

section
variable {s u : State} (h : grantOf .notice s = some u)
include h

theorem grantNotice_resends {r : NoticeRecord} {x : Flight} (hr : s.notices.inFlight = some r) (hx : r.flight = some x) :
    u.notices = { s.notices with resendDue := false } ∧ flightFrame u.notices = x.frame := by
  have hu : u.notices = { s.notices with resendDue := false } :=
    (grantOf_notice_eq h).2.trans (if_pos (by rw [hr]; rfl))
  exact ⟨hu, hu ▸ flightFrame_of_inFlight (q := { s.notices with resendDue := false }) hr hx⟩

theorem grantNotice_launches (hn : s.notices.inFlight = none) : u.notices = launchFirst s :=
  (grantOf_notice_eq h).2.trans (if_neg (by simp [hn]))

theorem grantNotice_sends_loss {r : NoticeRecord} (hn : s.notices.inFlight = none) (hl : s.notices.loss = some r)
    (ho : ∀ y ∈ s.notices.ordinary, y.kind ≠ .resetDone) :
    u.notices = { s.notices with nextSequence := s.notices.nextSequence + 1#8, loss := some (r.launch s) } ∧
      flightFrame u.notices = noticeFrame s r s.notices.nextSequence := by
  obtain ⟨hloss, -⟩ := unsent_of_inFlight_none hn
  have hu := (grantNotice_launches h hn).trans (launchFirst_loss hl (hloss r hl) ho)
  refine ⟨hu, ?_⟩
  rw [hu]
  exact flightFrame_of_inFlight (inFlight_of_loss rfl (launch_flight s r)) (launch_flight s r)

theorem grantNotice_sends_ordinary {before after : List NoticeRecord} {r : NoticeRecord}
    (hn : s.notices.inFlight = none) (ho : s.notices.ordinary = before ++ r :: after)
    (hl : s.notices.loss = none ∨ r.kind = .resetDone) (hb : ∀ y ∈ before, r.kind.code < y.kind.code)
    (ha : ∀ y ∈ after, r.kind.code ≤ y.kind.code) :
    u.notices =
        { s.notices with
          nextSequence := s.notices.nextSequence + 1#8, ordinary := before ++ r.launch s :: after } ∧
      flightFrame u.notices = noticeFrame s r s.notices.nextSequence := by
  obtain ⟨hloss, hunsent⟩ := unsent_of_inFlight_none hn
  have hr : r.flight = none := hunsent r (by simp [ho])
  have hbefore : ∀ y ∈ before, y.flight = none := fun y hy => hunsent y (by simp [ho, hy])
  have hu := (grantNotice_launches h hn).trans (launchFirst_ordinary ho hr hl hb ha)
  refine ⟨hu, ?_⟩
  rw [hu]
  exact flightFrame_of_inFlight (inFlight_of_ordinary (by exact hloss) rfl hbefore (launch_flight s r)) (launch_flight s r)

end

/-- Settles O9. -/
theorem aTransmitDecisionIsCyclic : Obligations.ATransmitDecisionIsCyclic := by
  refine ⟨fun c s hup htx hb hfind => grantOf_sends (grantOf_eq_decideA hup htx hb hfind),
    fun s hup htx hb hfind => ?_, fun r sequence s => noticeFrame_eq s r sequence, fun s hup htx hb hnone => ?_,
    fun i frame rest s hup htx hu hb => ?_, fun s h => decideA_of_closed h⟩
  · have hgrant := grantOf_eq_decideA hup htx hb hfind
    exact ⟨fun r x hr hx => grantNotice_resends hgrant hr hx, fun r hn hl ho => grantNotice_sends_loss hgrant hn hl ho,
      fun before after r hn ho hl hbefore hafter => grantNotice_sends_ordinary hgrant hn ho hl hbefore hafter⟩
  · rw [decideA_of_ready hup htx, discardBroadcastHeads_of_head hb, grantCyclic_of_noneWaits hnone]
  · rw [decideA_of_ready hup htx, hu, discardBroadcastHeads_slot hb, decideA_of_ready (by exact hup) (by exact htx)]
    rfl

end Sys2Proof.Machine
end

section
/-! PROOF. Changes of link state, and frames given as bytes on both trunk ports: the receive checks, what is too short or not
for Intake, and the two relay queues (R105, R130 to R132, R143 to R146, R148, R152, R153, R164). -/

namespace Sys2Proof.Machine

/-! ### Changes of link state (R143, R146, R152, R164) -/

theorem exec_trunkAUp {s : State} (h : s.held = none) (us : Nat) :
    exec (.trunkAUp us) s = .next (linkAUp (advance us s)) :=
  congrArg Host.Outcome.next (running_of_not_held h us linkAUp)

theorem exec_trunkADown {s : State} (h : s.held = none) (us : Nat) :
    exec (.trunkADown us) s = .next (linkADown (advance us s)) :=
  congrArg Host.Outcome.next (running_of_not_held h us linkADown)

theorem exec_trunkBUp {s : State} (h : s.held = none) (us : Nat) :
    exec (.trunkBUp us) s = .next (linkBUp (advance us s)) :=
  congrArg Host.Outcome.next (running_of_not_held h us linkBUp)

theorem exec_trunkBDown {s : State} (h : s.held = none) (us : Nat) :
    exec (.trunkBDown us) s = .next (linkBDown (advance us s)) :=
  congrArg Host.Outcome.next (running_of_not_held h us linkBDown)

theorem linkAUp_of_down {s : State} (h : s.trunk.aUp = false) :
    linkAUp s =
      decideA
        { s with
          trunk := { s.trunk with aUp := true }
          notices := { s.notices with resendDue := s.notices.inFlight.isSome } } :=
  if_neg (by simp [h])

theorem linkAUp_of_up {s : State} (h : s.trunk.aUp = true) : linkAUp s = s := if_pos h

theorem linkADown_of_up {s : State} (h : s.trunk.aUp = true) :
    linkADown s =
      { s with
        trunk := { s.trunk with aUp := false, aTx := none }
        notices := { s.notices with resend := none, resendDue := false } } :=
  if_pos h

theorem linkADown_of_down {s : State} (h : s.trunk.aUp = false) : linkADown s = s := if_neg (by simp [h])

theorem linkBUp_of_down {s : State} (h : s.trunk.bUp = false) :
    linkBUp s = startB { s with trunk := { s.trunk with bUp := true } } :=
  if_neg (by simp [h])

theorem linkBUp_of_up {s : State} (h : s.trunk.bUp = true) : linkBUp s = s := if_pos h

/-- The frame under transmission on B is held by the DOWN relay too. -/
theorem downHeld_eq (t : Trunk) : downHeld t = t.downQueue.length + if t.bTx.isSome then 1 else 0 := by
  rw [downHeld]
  cases t.bTx <;> rfl

theorem linkBDown_of_up {s : State} (h : s.trunk.bUp = true) :
    linkBDown s =
      addCount .downRelayLost (s.trunk.downQueue.length + if s.trunk.bTx.isSome then 1 else 0)
        { s with trunk := { s.trunk with bUp := false, downQueue := [], bTx := none } } := by
  rw [← downHeld_eq]
  exact if_pos h

theorem linkBDown_of_down {s : State} (h : s.trunk.bUp = false) : linkBDown s = s := if_neg (by simp [h])

/-- Settles O6. -/
theorem linkChangesTakeEffect : Obligations.LinkChangesTakeEffect := by
  refine ⟨fun us s hh h => ?_, fun us s hh h => ?_, fun us s hh h => ?_, fun us s hh h => ?_, fun us s hh =>
    ⟨fun h => ?_, fun h => ?_, fun h => ?_, fun h => ?_⟩⟩
  · rw [exec_trunkAUp hh, linkAUp_of_down (s := advance us s) h]
    rfl
  · rw [exec_trunkADown hh, linkADown_of_up (s := advance us s) h]
    rfl
  · rw [exec_trunkBUp hh, linkBUp_of_down (s := advance us s) h]
    rfl
  · rw [exec_trunkBDown hh, linkBDown_of_up (s := advance us s) h]
    rfl
  · rw [exec_trunkAUp hh, linkAUp_of_up (s := advance us s) h]
  · rw [exec_trunkADown hh, linkADown_of_down (s := advance us s) h]
  · rw [exec_trunkBUp hh, linkBUp_of_up (s := advance us s) h]
  · rw [exec_trunkBDown hh, linkBDown_of_down (s := advance us s) h]

/-! ### The receive checks (R129 to R131) -/

/-- The check of a frame holds exactly where its last two bytes are the check over the others. -/
theorem checkHolds_iff {frame : List Byte} :
    checkHolds frame = true ↔ ∃ covered, frame = covered ++ be16 (crc16 covered) := by
  constructor
  · intro h
    refine ⟨coveredBytes frame, ?_⟩
    rw [← beq_iff_eq.1 h, coveredBytes, List.take_append_drop]
  · rintro ⟨covered, rfl⟩
    exact checkHolds_withCheck covered

theorem isCorrupt_eq_false_iff {f : RawFrame} :
    isCorrupt f = false ↔
      f.symbolsValid = true ∧ 6 ≤ f.bytes.length ∧ f.bytes.length ≤ 96 ∧
        (∃ covered, f.bytes = covered ++ be16 (crc16 covered)) ∧
        byteAt f.bytes 0 ∈ [0x01#8, 0x02#8, 0x03#8, 0x04#8, 0x81#8, 0x82#8] := by
  rw [← checkHolds_iff, ← List.contains_iff_mem]
  simp only [isCorrupt, Bool.or_eq_false_iff, Bool.not_eq_false', decide_eq_false_iff_not, Nat.not_lt, and_assoc]
  exact and_congr_right fun _ => and_left_comm

theorem isUpstreamKind_iff {f : RawFrame} :
    isUpstreamKind f = true ↔ byteAt f.bytes 0 = 0x81#8 ∨ byteAt f.bytes 0 = 0x82#8 := by
  simp [isUpstreamKind, kindReply, kindNotice]

theorem segmentOf_val (frame : List Byte) : (segmentOf frame).val = (byteAt frame 1).toNat / 16 := by
  have hbyte := (byteAt frame 1).isLt
  exact Nat.mod_eq_of_lt (by omega)

theorem isShort_iff {frame : List Byte} :
    isShort frame = true ↔
      (byteAt frame 0 = 0x01#8 ∨ byteAt frame 0 = 0x02#8) ∧ frame.length < 9 ∨
        byteAt frame 0 = 0x03#8 ∧ frame.length < 7 ∨ byteAt frame 0 = 0x04#8 ∧ frame.length < 8 := by
  simp [isShort, kindRead, kindWrite, kindAbort, kindManage, or_assoc]

/-! ### What the bytes of a frame hold (R130 to R132) -/

/-- A frame of one of the four downstream kinds is not of an upstream kind. -/
theorem isUpstreamKind_of_downstream {f : RawFrame}
    (h : byteAt f.bytes 0 = 0x01#8 ∨ byteAt f.bytes 0 = 0x02#8 ∨ byteAt f.bytes 0 = 0x03#8 ∨ byteAt f.bytes 0 = 0x04#8) :
    isUpstreamKind f = false := by
  rcases h with h | h | h | h <;> (rw [isUpstreamKind, h]; rfl)

theorem isUpstreamKind_of_short {f : RawFrame} (h : isShort f.bytes = true) : isUpstreamKind f = false := by
  refine isUpstreamKind_of_downstream ?_
  rcases isShort_iff.1 h with ⟨hk | hk, -⟩ | ⟨hk, -⟩ | ⟨hk, -⟩ <;> simp [hk]

theorem parseDownstream_of_short {frame : List Byte} (h : isShort frame = true) : parseDownstream frame = .short := by
  rcases isShort_iff.1 h with ⟨hk | hk, hl⟩ | ⟨hk, hl⟩ | ⟨hk, hl⟩ <;>
    simp [parseDownstream, hk, hl, kindRead, kindWrite, kindAbort]

/-- A READ that is long enough for its kind. -/
theorem parseDownstream_of_read {frame : List Byte} (hk : byteAt frame 0 = 0x01#8) (h : isShort frame = false) :
    ∃ r, parseDownstream frame = .request .read r := by
  have hl : ¬ frame.length < 9 := fun hl => by simp [isShort_iff.2 (.inl ⟨.inl hk, hl⟩)] at h
  exact ⟨_, (if_pos hk).trans (if_neg hl)⟩

/-- An ABORT that is long enough for its kind. -/
theorem parseDownstream_of_abort {frame : List Byte} (hk : byteAt frame 0 = 0x03#8) (h : isShort frame = false) :
    ∃ a, parseDownstream frame = .abort a := by
  have hl : ¬ frame.length < 7 := fun hl => by simp [isShort_iff.2 (.inr (.inl ⟨hk, hl⟩))] at h
  refine ⟨_, (if_neg ?_).trans ((if_neg ?_).trans ((if_pos hk).trans (if_neg hl)))⟩ <;> (rw [hk]; decide)

/-- A MANAGE frame that is long enough for its kind, with its code. -/
theorem parseDownstream_of_manage {frame : List Byte} (hk : byteAt frame 0 = 0x04#8) (h : isShort frame = false) :
    ∃ m, parseDownstream frame = .manage (byteAt frame 4) m := by
  have hl : ¬ frame.length < 8 := fun hl => by simp [isShort_iff.2 (.inr (.inr ⟨hk, hl⟩))] at h
  have hcode : byteAt (coveredBytes frame) 4 = byteAt frame 4 := by
    simp only [byteAt, coveredBytes, List.getD_eq_getElem?_getD]
    rw [List.getElem?_take_of_lt (by omega)]
  rw [← hcode]
  refine ⟨_, (if_neg ?_).trans ((if_neg ?_).trans ((if_neg ?_).trans (if_neg hl)))⟩ <;> (rw [hk]; decide)

/-! ### Segment-15 frames that Intake discards (R105, R132) -/

/-- A code is found by its own byte alone (R137). -/
theorem byte_of_ofByte? {b : Byte} {code : ManageCode} (h : ManageCode.ofByte? b = some code) : code.byte = b :=
  beq_iff_eq.1 (List.find?_some (p := fun code : ManageCode => code.byte == b) h)

theorem intakeBroadcast_of_otherCode {code : Byte} (he : code ≠ 0x61#8) (hr : code ≠ 0x72#8) (t : Arrival)
    (m : ManageFrame) (s : State) : intakeBroadcast t (.manage code m) s = decideA (discardFrame s) := by
  rw [intakeBroadcast]
  split
  · next h => exact absurd (byte_of_ofByte? h).symm he
  · next h => exact absurd (byte_of_ofByte? h).symm hr
  · rfl

/-- A segment-15 frame that Intake takes nothing from: one too short for its kind, a READ, an ABORT, or a MANAGE of another
code than EPOCH_SET and SEGMENT_RESET. -/
def DiscardedBroadcast (frame : List Byte) : Prop :=
  isShort frame = true ∨ byteAt frame 0 = 0x01#8 ∨ byteAt frame 0 = 0x03#8 ∨
    (byteAt frame 0 = 0x04#8 ∧ byteAt frame 4 ≠ 0x61#8 ∧ byteAt frame 4 ≠ 0x72#8)

theorem DiscardedBroadcast.isUpstreamKind_eq_false {f : RawFrame} (h : DiscardedBroadcast f.bytes) :
    isUpstreamKind f = false := by
  rcases h with h | hk | hk | ⟨hk, -, -⟩
  · exact isUpstreamKind_of_short h
  all_goals exact isUpstreamKind_of_downstream (by simp [hk])

theorem DiscardedBroadcast.intake {frame : List Byte} (h : DiscardedBroadcast frame) (t : Arrival) (s : State) :
    intakeBroadcast t (parseDownstream frame) s = decideA (discardFrame s) := by
  cases hs : isShort frame with
  | true => rw [parseDownstream_of_short hs]; rfl
  | false =>
    rcases h with h | hk | hk | ⟨hk, he, hr⟩
    · exact absurd (hs.symm.trans h) Bool.false_ne_true
    · obtain ⟨r, hp⟩ := parseDownstream_of_read hk hs
      rw [hp]; rfl
    · obtain ⟨a, hp⟩ := parseDownstream_of_abort hk hs
      rw [hp]; rfl
    · obtain ⟨m, hp⟩ := parseDownstream_of_manage hk hs
      rw [hp, intakeBroadcast_of_otherCode he hr]

/-! ### Frames on port A (R144 to R146, R153) -/

theorem exec_aFrameReceived {s : State} (h : s.held = none) (t : Arrival) (f : RawFrame) :
    exec (.aFrameReceived t f) s = .next (takeA t f (advance t.elapsed s)) :=
  congrArg Host.Outcome.next (running_of_not_held h t.elapsed (takeA t f))

theorem takeA_of_down {s : State} (h : s.trunk.aUp = false) (t : Arrival) (f : RawFrame) : takeA t f s = s := if_pos h

section
variable {s : State} (hup : s.trunk.aUp = true)
include hup

theorem takeA_of_up (t : Arrival) (f : RawFrame) :
    takeA t f s =
      if isCorrupt f then bump .aCorrupt s
      else if isUpstreamKind f then bump .aMisdirected s
      else sortDownstream t f.bytes (bump .aReceived s) :=
  if_neg (by simp [hup])

theorem takeA_of_corrupt {f : RawFrame} (hc : isCorrupt f = true) (t : Arrival) : takeA t f s = bump .aCorrupt s :=
  (takeA_of_up hup t f).trans (if_pos hc)

theorem takeA_of_upstream {f : RawFrame} (hc : isCorrupt f = false) (hk : isUpstreamKind f = true) (t : Arrival) :
    takeA t f s = bump .aMisdirected s := by
  rw [takeA_of_up hup, hc, hk]; rfl

theorem takeA_of_downstream {f : RawFrame} (hc : isCorrupt f = false) (hk : isUpstreamKind f = false) (t : Arrival) :
    takeA t f s = sortDownstream t f.bytes (bump .aReceived s) := by
  rw [takeA_of_up hup, hc, hk]; rfl

end

/-- A downstream frame that passes the checks is sorted in the state in which it is counted. -/
theorem exec_aFrameReceived_downstream {f : RawFrame} {s : State} (hh : s.held = none) (hup : s.trunk.aUp = true)
    (hc : isCorrupt f = false) (hk : isUpstreamKind f = false) (t : Arrival) :
    exec (.aFrameReceived t f) s = .next (sortDownstream t f.bytes (s.atFrame t)) := by
  rw [exec_aFrameReceived hh, takeA_of_downstream (s := advance t.elapsed s) hup hc hk, State.atFrame]

theorem sortDownstream_of_repeater {s : State} (h : s.repeater = true) (t : Arrival) (bytes : List Byte) :
    sortDownstream t bytes s = relayDown bytes (arrivalInstant t s) s :=
  if_pos h

section
variable {bytes : List Byte} {s : State} (hr : s.repeater = false)
include hr

theorem sortDownstream_of_not_repeater (t : Arrival) :
    sortDownstream t bytes s =
      if segmentOf bytes = s.segment then intakeDirect t (parseDownstream bytes) s
      else if segmentOf bytes = 15 then
        intakeBroadcast t (parseDownstream bytes) (relayDown bytes (arrivalInstant t s) s)
      else decideA (relayDown bytes (arrivalInstant t s) s) :=
  if_neg (by simp [hr])

theorem sortDownstream_own (h : segmentOf bytes = s.segment) (t : Arrival) :
    sortDownstream t bytes s = intakeDirect t (parseDownstream bytes) s :=
  (sortDownstream_of_not_repeater hr t).trans (if_pos h)

theorem sortDownstream_segment15 (h : segmentOf bytes = 15) (t : Arrival) :
    sortDownstream t bytes s =
      intakeBroadcast t (parseDownstream bytes) (relayDown bytes (arrivalInstant t s) s) := by
  rw [sortDownstream_of_not_repeater hr, h, if_neg (segment_ne_of_not_repeater hr), if_pos rfl]

theorem sortDownstream_elsewhere (h : segmentOf bytes ≠ s.segment) (h15 : segmentOf bytes ≠ 15) (t : Arrival) :
    sortDownstream t bytes s = decideA (relayDown bytes (arrivalInstant t s) s) :=
  (sortDownstream_of_not_repeater hr t).trans ((if_neg h).trans (if_neg h15))

end

/-! ### Frames on port B (R144, R145, R148) -/

theorem exec_bFrameReceived {s : State} (h : s.held = none) (us : Nat) (f : RawFrame) :
    exec (.bFrameReceived us f) s = .next (takeB f (advance us s)) :=
  congrArg Host.Outcome.next (running_of_not_held h us (takeB f))

theorem takeB_of_down {s : State} (h : s.trunk.bUp = false) (f : RawFrame) : takeB f s = s := if_pos h

section
variable {s : State} (hup : s.trunk.bUp = true)
include hup

theorem takeB_of_up (f : RawFrame) :
    takeB f s =
      if isCorrupt f then bump .bCorrupt s
      else if isUpstreamKind f then decideA (relayUp f.bytes (bump .bReceived s))
      else bump .bMisdirected s :=
  if_neg (by simp [hup])

theorem takeB_of_corrupt {f : RawFrame} (hc : isCorrupt f = true) : takeB f s = bump .bCorrupt s :=
  (takeB_of_up hup f).trans (if_pos hc)

theorem takeB_of_downstream {f : RawFrame} (hc : isCorrupt f = false) (hk : isUpstreamKind f = false) :
    takeB f s = bump .bMisdirected s := by
  rw [takeB_of_up hup, hc, hk]; rfl

theorem takeB_of_upstream {f : RawFrame} (hc : isCorrupt f = false) (hk : isUpstreamKind f = true) :
    takeB f s = decideA (relayUp f.bytes (bump .bReceived s)) := by
  rw [takeB_of_up hup, hc, hk]; rfl

end

/-! ### The relay queues (R146, R148) -/

theorem relayDown_of_room {s : State} (hup : s.trunk.bUp = true) (h : s.trunk.downQueue.length < 8) (bytes : List Byte)
    (arrival : Stamp) :
    relayDown bytes arrival s =
      startB
        { s with
          trunk := { s.trunk with downQueue := s.trunk.downQueue ++ [{ bytes := bytes, arrival := arrival }] } } :=
  (if_pos hup).trans (if_pos h)

theorem relayDown_of_full {s : State} (hup : s.trunk.bUp = true) (h : 8 ≤ s.trunk.downQueue.length) (bytes : List Byte)
    (arrival : Stamp) :
    relayDown bytes arrival s = raise .relayLoss none relayLossDown (bump .downRelayLost s) :=
  (if_pos hup).trans (if_neg (Nat.not_lt.2 h))

theorem relayDown_of_down {s : State} (h : s.trunk.bUp = false) (bytes : List Byte) (arrival : Stamp) :
    relayDown bytes arrival s = bump .downRelayLost s :=
  if_neg (by simp [h])

theorem relayUp_of_room {s : State} (h : s.trunk.upQueue.length < 8) (bytes : List Byte) :
    relayUp bytes s = { s with trunk := { s.trunk with upQueue := s.trunk.upQueue ++ [bytes] } } :=
  if_pos h

theorem relayUp_of_full {s : State} (h : 8 ≤ s.trunk.upQueue.length) (bytes : List Byte) :
    relayUp bytes s = raise .relayLoss none relayLossUp (bump .upRelayLost s) :=
  if_neg (Nat.not_lt.2 h)

/-! ### Frames that Intake discards, taken on port A (R105, R132, R146) -/

/-- A frame for this segment that is too short for its kind (R132). -/
theorem exec_aFrameReceived_ownShort {f : RawFrame} {s : State} (hs : Serving s) (hc : isCorrupt f = false)
    (hown : segmentOf f.bytes = s.segment) (h : isShort f.bytes = true) (t : Arrival) :
    exec (.aFrameReceived t f) s = .next (decideA (discardFrame (s.atFrame t))) := by
  obtain ⟨hh, hup, hr⟩ := hs
  rw [exec_aFrameReceived_downstream hh hup hc (isUpstreamKind_of_short h),
    sortDownstream_own (s := s.atFrame t) hr hown, parseDownstream_of_short h, intakeDirect]

/-- A segment-15 frame that Intake discards is relayed first (R105; log entry 9). -/
theorem exec_aFrameReceived_discardedBroadcast {f : RawFrame} {s : State} (hs : Serving s) (hc : isCorrupt f = false)
    (h15 : segmentOf f.bytes = 15) (h : DiscardedBroadcast f.bytes) (t : Arrival) :
    exec (.aFrameReceived t f) s =
      .next (decideA (discardFrame (relayDown f.bytes (s.arrival t) (s.atFrame t)))) := by
  obtain ⟨hh, hup, hr⟩ := hs
  rw [exec_aFrameReceived_downstream hh hup hc h.isUpstreamKind_eq_false,
    sortDownstream_segment15 (s := s.atFrame t) hr h15, h.intake, arrivalInstant_atFrame]

/-- Settles O10. -/
theorem framesOnTrunkPortsAreSorted : Obligations.FramesOnTrunkPortsAreSorted := by
  refine ⟨⟨fun f => ⟨isCorrupt_eq_false_iff, isUpstreamKind_iff, segmentOf_val f.bytes, isShort_iff⟩,
      fun t f s hs hc hown h => exec_aFrameReceived_ownShort hs hc hown h t,
      fun t f s hs hc h15 h => exec_aFrameReceived_discardedBroadcast hs hc h15 h t⟩,
    ⟨fun t f s hh hd => ?_, fun t f s hh hup hc => ?_, fun t f s hh hup hc hk => ?_, fun t f s hs hc hk hne h15 => ?_,
      fun t f s hh hup hr hc hk => ?_, fun us f s hh hd => ?_, fun us f s hh hup hc => ?_,
      fun us f s hh hup hc hk => ?_, fun us f s hh hup hc hk => ?_⟩,
    fun bytes arrival s hup h => relayDown_of_room hup h bytes arrival,
    fun bytes arrival s hup h => relayDown_of_full hup h bytes arrival,
    fun bytes arrival s h => relayDown_of_down h bytes arrival, fun bytes s h => relayUp_of_room h bytes,
    fun bytes s h => relayUp_of_full h bytes⟩
  · rw [exec_aFrameReceived hh, takeA_of_down (s := advance t.elapsed s) hd]
  · rw [exec_aFrameReceived hh, takeA_of_corrupt (s := advance t.elapsed s) hup hc, bump]
  · rw [exec_aFrameReceived hh, takeA_of_upstream (s := advance t.elapsed s) hup hc hk, bump]
  · obtain ⟨hh, hup, hr⟩ := hs
    rw [exec_aFrameReceived_downstream hh hup hc hk, sortDownstream_elsewhere (s := s.atFrame t) hr hne h15,
      arrivalInstant_atFrame]
  · rw [exec_aFrameReceived_downstream hh hup hc hk, sortDownstream_of_repeater (s := s.atFrame t) hr,
      arrivalInstant_atFrame]
  · rw [exec_bFrameReceived hh, takeB_of_down (s := advance us s) hd]
  · rw [exec_bFrameReceived hh, takeB_of_corrupt (s := advance us s) hup hc, bump]
  · rw [exec_bFrameReceived hh, takeB_of_downstream (s := advance us s) hup hc hk, bump]
  · rw [exec_bFrameReceived hh, takeB_of_upstream (s := advance us s) hup hc hk, bump]

end Sys2Proof.Machine
end

section
/-! PROOF. The Notice Queue's own operations: how a raise is taken, what is recorded as lost, and the decision at a full queue
(R157 to R160). -/

namespace Sys2Proof.Machine

/-! ### Losses (R160) -/

theorem recordLoss_of_none {q : NoticeQueue} (h : q.loss = none) (kind : NoticeKind) (now : Stamp) :
    q.recordLoss kind now =
      { q with loss := some (NoticeRecord.make .noticesLost none (BitVec.ofNat 16 kind.code) now) } := by
  simp only [NoticeQueue.recordLoss, h]

theorem recordLoss_of_unsent {q : NoticeQueue} {r : NoticeRecord} (h : q.loss = some r) (hr : r.flight = none)
    (kind : NoticeKind) (now : Stamp) :
    q.recordLoss kind now = { q with loss := some (r.merge (BitVec.ofNat 16 kind.code) now) } := by
  simp only [NoticeQueue.recordLoss, h, hr, Option.isNone_none, if_true]

/-- The held loss after a further loss of a kind (R160). -/
def HeldLoss.grown (kind : NoticeKind) (now : Stamp) : Option HeldLoss → HeldLoss
  | none => { count := 1, kind := kind, first := now, last := now }
  | some h => { h with count := min 255 (h.count + 1), kind := kind, last := now }

theorem recordLoss_of_flying {q : NoticeQueue} {r : NoticeRecord} (h : q.loss = some r) (hr : r.flight.isSome = true)
    (kind : NoticeKind) (now : Stamp) :
    q.recordLoss kind now = { q with heldLoss := some (HeldLoss.grown kind now q.heldLoss) } := by
  have hsent : ¬ r.flight.isNone = true := by simp [Option.isNone_iff_eq_none, Option.isSome_iff_ne_none.1 hr]
  simp only [NoticeQueue.recordLoss, h, if_neg hsent]
  cases q.heldLoss <;> rfl

/-! ### Raises (R158, R159) -/

section
variable {kind : NoticeKind} {node : Option NodeAddr} {q : NoticeQueue}

theorem takeRaise_of_masked (h : q.mask.getLsbD kind.code = true) (node : Option NodeAddr) (detail : Word)
    (now : Stamp) : q.takeRaise kind node detail now = q :=
  if_pos h

/-- A record of the kind and node that is UNSENT takes the raise, the oldest one if there are more. -/
theorem takeRaise_of_merge {before after : List NoticeRecord} {r : NoticeRecord}
    (hm : q.mask.getLsbD kind.code = false) (ho : q.ordinary = before ++ r :: after)
    (hr : r.mergesWith kind node = true) (hb : ∀ x ∈ before, x.mergesWith kind node = false) (detail : Word)
    (now : Stamp) :
    q.takeRaise kind node detail now = { q with ordinary := before ++ r.merge detail now :: after } := by
  have hany : q.ordinary.any (NoticeRecord.mergesWith kind node) = true := by simp [ho, hr]
  have hmodified := modifyFirst_append (NoticeRecord.merge detail now) after hb hr
  rw [NoticeQueue.takeRaise, hm, if_neg Bool.false_ne_true, if_pos hany, ho, hmodified]

section
variable (hm : q.mask.getLsbD kind.code = false)
  (hn : q.ordinary.any (NoticeRecord.mergesWith kind node) = false)
include hm hn

theorem takeRaise_of_room (hl : q.ordinary.length < 24) (detail : Word) (now : Stamp) :
    q.takeRaise kind node detail now =
      { q with ordinary := q.ordinary ++ [NoticeRecord.make kind node detail now] } := by
  rw [NoticeQueue.takeRaise, hm, hn, if_neg Bool.false_ne_true, if_neg Bool.false_ne_true]
  exact if_pos hl

/-- At a full queue a raise is compared with the UNSENT kind of lowest priority. -/
theorem takeRaise_of_full {worst : NoticeKind} (hl : 24 ≤ q.ordinary.length)
    (hw : bottomUnsentKind q.ordinary = some worst) (detail : Word) (now : Stamp) :
    q.takeRaise kind node detail now =
      if kind.code < worst.code then
        NoticeQueue.recordLoss worst now
          { q with
            ordinary :=
              dropLastThat (NoticeRecord.unsentOf worst) q.ordinary ++ [NoticeRecord.make kind node detail now] }
      else q.recordLoss kind now := by
  have hfull : ¬ q.ordinary.length < Config.noticeCapacity := Nat.not_lt.2 hl
  rw [NoticeQueue.takeRaise, hm, hn, if_neg Bool.false_ne_true, if_neg Bool.false_ne_true, if_neg hfull, hw]

end

end

/-- The element that `dropLastThat` removes is the last that satisfies the predicate. -/
theorem dropLastThat_append {α : Type} {p : α → Bool} (before : List α) {x : α} {after : List α} (hx : p x = true)
    (ha : ∀ y ∈ after, p y = false) : dropLastThat p (before ++ x :: after) = before ++ after := by
  have hreverse : (before ++ x :: after).reverse = after.reverse ++ x :: before.reverse := by simp
  have hskip : ∀ y ∈ after.reverse, ¬ p y = true := fun y hy => by simp [ha y (List.mem_reverse.1 hy)]
  rw [dropLastThat, hreverse, List.eraseP_append_right _ hskip, List.eraseP_cons_of_pos hx]
  simp

theorem eq_false_of_all_not {α : Type} {p : α → Bool} {l : List α} (h : l.all (fun x => !p x) = true) :
    ∀ x ∈ l, p x = false := by
  simpa using h

/-- Settles O52: one equation for each way that a raise is taken, and one for each place that a loss is recorded in. -/
theorem raisesMergeMakeOrGiveWay : Obligations.RaisesMergeMakeOrGiveWay := by
  refine ⟨fun kind node detail now q h => takeRaise_of_masked h node detail now,
    fun kind node detail now before after r q hm ho hr hk hn hb => ?_,
    fun kind node detail now q hm hall => ?_, fun kind now q => ?_⟩
  · refine takeRaise_of_merge hm ho ?_ (eq_false_of_all_not hb) detail now
    simp [NoticeRecord.mergesWith, NoticeRecord.unsentOf, hr, hk, hn]
  · have hunmerged : q.ordinary.any (NoticeRecord.mergesWith kind node) = false :=
      List.any_eq_false.2 fun x hx => Bool.eq_false_iff.1 (eq_false_of_all_not hall x hx)
    refine ⟨fun hl => takeRaise_of_room hm hunmerged hl detail now, fun worst hl hw hle => ?_,
      fun worst before after r hl hw hlt ho hr hk ha => ?_⟩
    · rw [takeRaise_of_full hm hunmerged hl hw, if_neg (Nat.not_lt.2 hle)]
    · have hdrop : dropLastThat (NoticeRecord.unsentOf worst) q.ordinary = before ++ after := by
        rw [ho]
        exact dropLastThat_append before (by simp [NoticeRecord.unsentOf, hr, hk]) (eq_false_of_all_not ha)
      rw [takeRaise_of_full hm hunmerged hl hw, if_pos hlt, hdrop]
      rfl
  · refine ⟨fun h => recordLoss_of_none h kind now, fun r h hr => recordLoss_of_unsent h hr kind now,
      fun r h hr => (recordLoss_of_flying h hr kind now).trans ?_⟩
    cases q.heldLoss <;> rfl

end Sys2Proof.Machine
end

section
/-! PROOF. What a step can do to the Notice Queue, move by move: the relation `NoticeMove`, and that each move keeps at most
one record IN_FLIGHT, with the resend timer for it alone (R157 to R168). -/

namespace Sys2Proof.Machine

/-- One change of the Notice Queue (chapter 9). -/
inductive NoticeMove : NoticeQueue → NoticeQueue → Prop where
  /-- A notice is raised (R158). -/
  | raised {q : NoticeQueue} (kind : NoticeKind) (node : Option NodeAddr) (detail : Word) (now : Stamp) :
      NoticeMove q (q.takeRaise kind node detail now)
  /-- With no record IN_FLIGHT, the first-ranked UNSENT record is granted (R162). -/
  | launched (s : State) (h : s.notices.inFlight.isSome = false) : NoticeMove s.notices (launchFirst s)
  /-- The IN_FLIGHT record is granted again (R163). -/
  | resent {q : NoticeQueue} : NoticeMove q { q with resendDue := false }
  /-- The resend timer, which was armed, expires (R163). -/
  | expired {q : NoticeQueue} (h : q.resend.isSome = true) : NoticeMove q { q with resend := none, resendDue := true }
  /-- A transmission of the IN_FLIGHT record ends (R162, R163). -/
  | sent {q : NoticeQueue} (expiry : Stamp) (h : q.inFlight.isSome = true) :
      NoticeMove q { q.markSent with resend := some expiry }
  /-- Port A comes UP (R164). -/
  | linkUp {q : NoticeQueue} : NoticeMove q { q with resendDue := q.inFlight.isSome }
  /-- Port A goes DOWN (R164). -/
  | linkDown {q : NoticeQueue} : NoticeMove q { q with resend := none, resendDue := false }
  /-- The IN_FLIGHT record is acknowledged (R165). -/
  | acknowledged {q : NoticeQueue} : NoticeMove q q.acknowledge
  /-- A mask is put in force (R166). -/
  | masked {q : NoticeQueue} (mask : BitVec 16) : NoticeMove q (q.putMask mask)
  /-- A soft reset (R168). -/
  | softReset {q : NoticeQueue} : NoticeMove q q.softReset
  /-- A hard reset (R167). -/
  | hardReset {q : NoticeQueue} (straps : Straps) (cause : ResetCause) :
      NoticeMove q (State.blank straps cause).notices

/-! ### Records IN_FLIGHT in a list -/

/-- The number of IN_FLIGHT records in a list. -/
def flying (l : List NoticeRecord) : Nat :=
  l.countP (fun r => r.flight.isSome)

theorem flights_eq (q : NoticeQueue) : flights q = flying q.loss.toList + flying q.ordinary := List.countP_append

@[simp] theorem flying_nil : flying [] = 0 := rfl

@[simp] theorem flying_cons (r : NoticeRecord) (l : List NoticeRecord) :
    flying (r :: l) = flying l + if r.flight.isSome then 1 else 0 := List.countP_cons

@[simp] theorem flying_append (k l : List NoticeRecord) : flying (k ++ l) = flying k + flying l := List.countP_append

/-- A change of one record that keeps whether it is IN_FLIGHT keeps the number. -/
theorem flying_modifyFirst {p : NoticeRecord → Bool} {f : NoticeRecord → NoticeRecord}
    (h : ∀ r, (f r).flight.isSome = r.flight.isSome) (l : List NoticeRecord) : flying (modifyFirst p f l) = flying l := by
  induction l with
  | nil => rfl
  | cons r l ih =>
    unfold modifyFirst
    split <;> simp [h, ih]

/-- Whatever is done to one record, at most one more is IN_FLIGHT. -/
theorem flying_modifyFirst_le (p : NoticeRecord → Bool) (f : NoticeRecord → NoticeRecord) (l : List NoticeRecord) :
    flying (modifyFirst p f l) ≤ flying l + 1 := by
  induction l with
  | nil => exact Nat.zero_le _
  | cons r l ih =>
    unfold modifyFirst
    split
    · simp only [flying_cons]
      split <;> omega
    · simp only [flying_cons]
      omega

/-- A list that loses its last UNSENT record of a kind keeps those IN_FLIGHT. -/
theorem flying_dropLastThat (kind : NoticeKind) (l : List NoticeRecord) :
    flying (dropLastThat (NoticeRecord.unsentOf kind) l) = flying l := by
  have hreverse : ∀ k : List NoticeRecord, flying k.reverse = flying k := fun k => List.countP_reverse
  rw [dropLastThat, hreverse, ← hreverse l]
  rcases List.exists_or_eq_self_of_eraseP (NoticeRecord.unsentOf kind) l.reverse with h | ⟨r, before, after, -, hr, hl, h⟩
  · rw [h]
  · have hunsent : r.flight = none := by
      simp only [NoticeRecord.unsentOf, Bool.and_eq_true, Option.isNone_iff_eq_none] at hr
      exact hr.1
    rw [h, hl]
    simp [hunsent]

/-- The records that a new mask removes are UNSENT (R166). -/
theorem flying_filter_unmasked (mask : BitVec 16) (l : List NoticeRecord) :
    flying (l.filter (fun r => r.flight.isSome || !mask.getLsbD r.kind.code)) = flying l := by
  unfold flying
  rw [List.countP_filter]
  congr 1
  funext r
  cases r.flight <;> rfl

/-! ### The number of IN_FLIGHT records after each operation -/

theorem flights_recordLoss (kind : NoticeKind) (now : Stamp) (q : NoticeQueue) :
    flights (q.recordLoss kind now) = flights q := by
  cases h : q.loss with
  | none =>
    rw [recordLoss_of_none h, flights_eq, flights_eq, h]
    rfl
  | some r =>
    cases hr : r.flight with
    | none =>
      rw [recordLoss_of_unsent h hr, flights_eq, flights_eq, h]
      rfl
    | some x =>
      rw [recordLoss_of_flying h (by rw [hr]; rfl)]
      rfl

/-- A raise launches no record and removes none that is IN_FLIGHT (R158, R159). -/
theorem flights_takeRaise (kind : NoticeKind) (node : Option NodeAddr) (detail : Word) (now : Stamp) (q : NoticeQueue) :
    flights (q.takeRaise kind node detail now) = flights q := by
  have hnew : ∀ l, flying (l ++ [NoticeRecord.make kind node detail now]) = flying l := fun l => by
    simp [NoticeRecord.make]
  unfold NoticeQueue.takeRaise
  split
  · rfl
  · split
    · rw [flights_eq, flights_eq, flying_modifyFirst (f := NoticeRecord.merge detail now) fun _ => rfl]
    · split
      · rw [flights_eq, flights_eq, hnew]
      · split
        · exact flights_recordLoss ..
        · split
          · rw [flights_recordLoss, flights_eq, flights_eq, hnew, flying_dropLastThat]
          · exact flights_recordLoss ..

theorem recordLoss_resend (kind : NoticeKind) (now : Stamp) (q : NoticeQueue) :
    (q.recordLoss kind now).resend = q.resend ∧ (q.recordLoss kind now).resendDue = q.resendDue := by
  unfold NoticeQueue.recordLoss
  dsimp only
  repeat' split
  all_goals exact ⟨rfl, rfl⟩

/-- A raise does not touch the resend timer. -/
theorem takeRaise_resend (kind : NoticeKind) (node : Option NodeAddr) (detail : Word) (now : Stamp) (q : NoticeQueue) :
    (q.takeRaise kind node detail now).resend = q.resend ∧
      (q.takeRaise kind node detail now).resendDue = q.resendDue := by
  unfold NoticeQueue.takeRaise
  repeat' split
  all_goals simp [recordLoss_resend]

theorem sent_flight (r : NoticeRecord) : r.sent.flight.isSome = r.flight.isSome := Option.isSome_map

theorem flights_markSent (q : NoticeQueue) : flights q.markSent = flights q := by
  have hloss : flying (q.loss.map NoticeRecord.sent).toList = flying q.loss.toList := by
    cases q.loss <;> simp [sent_flight]
  rw [flights_eq, flights_eq, NoticeQueue.markSent, hloss, flying_modifyFirst sent_flight]

theorem launchFirst_resend (s : State) :
    (launchFirst s).resend = s.notices.resend ∧ (launchFirst s).resendDue = s.notices.resendDue := by
  unfold launchFirst
  dsimp only
  repeat' split
  all_goals exact ⟨rfl, rfl⟩

/-- A first grant launches at most one record: the loss record, which was UNSENT, or one ordinary record (R162). -/
theorem flights_launchFirst_le (s : State) : flights (launchFirst s) ≤ flights s.notices + 1 := by
  unfold launchFirst
  dsimp only
  split
  · rw [flights_eq, flights_eq]
    cases s.notices.loss <;> simp [launch_flight]
    omega
  · split
    · exact Nat.le_succ _
    · rw [flights_eq, flights_eq]
      exact Nat.add_le_add_left (flying_modifyFirst_le ..) _

/-- An acknowledgement puts no record in flight (R160, R165). -/
theorem flights_acknowledge_le (q : NoticeQueue) : flights q.acknowledge ≤ flights q := by
  have hheld : flying (q.heldLoss.map HeldLoss.record).toList = 0 := by
    cases q.heldLoss <;> simp [HeldLoss.record]
  rw [flights_eq, flights_eq]
  unfold NoticeQueue.acknowledge
  dsimp only
  split
  · exact Nat.add_le_add_right (hheld.trans_le (Nat.zero_le _)) _
  · exact Nat.add_le_add_left List.eraseP_sublist.countP_le _

theorem acknowledge_resend (q : NoticeQueue) : q.acknowledge.resend = none ∧ q.acknowledge.resendDue = false := by
  unfold NoticeQueue.acknowledge
  dsimp only
  split <;> exact ⟨rfl, rfl⟩

/-! ### The law of one queue (R157, R163) -/

theorem inFlight_isSome_iff (q : NoticeQueue) : q.inFlight.isSome = true ↔ 0 < flights q := by
  rw [NoticeQueue.inFlight, flights, List.find?_isSome, List.countP_pos_iff]

/-- At most one record is IN_FLIGHT, and the resend timer is armed or expired only for one, said by their number. -/
def NoticeQueue.OneInFlight (q : NoticeQueue) : Prop :=
  flights q ≤ 1 ∧ (q.resend.isSome = true ∨ q.resendDue = true → 0 < flights q)

theorem oneNoticeInFlight_iff (s : State) : OneNoticeInFlight s ↔ s.notices.OneInFlight := by
  rw [OneNoticeInFlight, NoticeQueue.OneInFlight, inFlight_isSome_iff]

theorem oneInFlight_of_eq {q r : NoticeQueue} (hf : flights r = flights q)
    (hr : r.resend = q.resend ∧ r.resendDue = q.resendDue) (h : q.OneInFlight) : r.OneInFlight := by
  rwa [NoticeQueue.OneInFlight, hf, hr.1, hr.2]

/-- With the timer neither armed nor expired the number alone has to be kept. -/
theorem oneInFlight_of_idle {r : NoticeQueue} (hf : flights r ≤ 1) (hr : r.resend = none ∧ r.resendDue = false) :
    r.OneInFlight :=
  ⟨hf, by simp [hr.1, hr.2]⟩

/-- Every move keeps the law of the queue. -/
theorem NoticeMove.keeps_oneInFlight {q r : NoticeQueue} (m : NoticeMove q r) (h : q.OneInFlight) : r.OneInFlight := by
  obtain ⟨hone, htimer⟩ := h
  cases m with
  | raised kind node detail now =>
    exact oneInFlight_of_eq (flights_takeRaise ..) (takeRaise_resend ..) ⟨hone, htimer⟩
  | launched s hn =>
    have hzero : flights s.notices = 0 := by
      have hnone := mt (inFlight_isSome_iff s.notices).2 (by simp [hn])
      omega
    obtain ⟨hresend, hdue⟩ := launchFirst_resend s
    have hle := flights_launchFirst_le s
    refine ⟨by omega, fun harmed => ?_⟩
    rw [hresend, hdue] at harmed
    exact absurd (htimer harmed) (by omega)
  | resent => exact ⟨hone, fun harmed => htimer (harmed.imp_right (by simp))⟩
  | expired hr => exact ⟨hone, fun _ => htimer (.inl hr)⟩
  | sent expiry hf =>
    have hflights : flights { q.markSent with resend := some expiry } = flights q := flights_markSent q
    exact ⟨hflights.trans_le hone, fun _ => hflights ▸ (inFlight_isSome_iff q).1 hf⟩
  | linkUp => exact ⟨hone, fun harmed => harmed.elim (fun hr => htimer (.inl hr)) (inFlight_isSome_iff q).1⟩
  | linkDown => exact oneInFlight_of_idle hone ⟨rfl, rfl⟩
  | acknowledged => exact oneInFlight_of_idle ((flights_acknowledge_le q).trans hone) (acknowledge_resend q)
  | masked mask =>
    have hflights : flights (q.putMask mask) = flights q := by
      rw [flights_eq, flights_eq, NoticeQueue.putMask, flying_filter_unmasked]
    exact oneInFlight_of_eq hflights ⟨rfl, rfl⟩ ⟨hone, htimer⟩
  | softReset => exact oneInFlight_of_idle (Nat.zero_le 1) ⟨rfl, rfl⟩
  | hardReset straps cause => exact oneInFlight_of_idle (Nat.zero_le 1) ⟨rfl, rfl⟩

end Sys2Proof.Machine
end

section
/-! PROOF. What every step does to the Notice Queue: it moves it along `NoticeMove`, and so keeps at most one record IN_FLIGHT
(R157, R163). The commands and their owners are gone through once, and only where one of them raises a notice, grants one, or
is about one. -/

namespace Sys2Proof.Machine

/-- From `s` to `u` the Notice Queue has been changed by moves alone. -/
def Notifies (s u : State) : Prop :=
  Relation.ReflTransGen NoticeMove s.notices u.notices

theorem oneInFlight_of_moves {q r : NoticeQueue} (h : Relation.ReflTransGen NoticeMove q r) (hq : q.OneInFlight) :
    r.OneInFlight := by
  induction h with
  | refl => exact hq
  | tail _ m ih => exact m.keeps_oneInFlight ih

namespace Notifies

theorem refl (s : State) : Notifies s s := Relation.ReflTransGen.refl

theorem trans {s t u : State} (h : Notifies s t) (k : Notifies t u) : Notifies s u :=
  Relation.ReflTransGen.trans h k

theorem of_move {s u : State} (h : NoticeMove s.notices u.notices) : Notifies s u := .single h

theorem of_eq {s u : State} (h : u.notices = s.notices) : Notifies s u := by
  rw [Notifies, h]

/-- A part that leaves the queue may come first. -/
theorem after {s t u : State} (h : t.notices = s.notices) (k : Notifies t u) : Notifies s u := (of_eq h).trans k

/-- A part that leaves the queue may come last. -/
theorem followed {s u : State} (f : State → State) (h : Notifies s u) (hf : (f u).notices = u.notices) :
    Notifies s (f u) := h.trans (of_eq hf)

theorem keeps_oneNoticeInFlight {s u : State} (h : Notifies s u) (hs : OneNoticeInFlight s) : OneNoticeInFlight u := by
  rw [oneNoticeInFlight_iff] at hs ⊢
  exact oneInFlight_of_moves h hs

end Notifies

/-! ### Raises, relays and the A-transmit arbiter -/

theorem notifies_raise (kind : NoticeKind) (node : Option NodeAddr) (detail : Word) (s : State) :
    Notifies s (raise kind node detail s) := by
  unfold raise
  split
  · exact .refl s
  · exact .of_move (.raised ..)

theorem notifies_relayDown (bytes : List Byte) (arrival : Stamp) (s : State) : Notifies s (relayDown bytes arrival s) := by
  unfold relayDown
  split
  · split
    · exact .of_eq (by simp)
    · exact .after (by simp) (notifies_raise ..)
  · exact .of_eq (by simp)

theorem notifies_relayUp (bytes : List Byte) (s : State) : Notifies s (relayUp bytes s) := by
  unfold relayUp
  split
  · exact .refl s
  · exact .after (by simp) (notifies_raise ..)

theorem notifies_grantOf {c : UpClaimant} {s u : State} (h : grantOf c s = some u) : Notifies s u := by
  obtain ⟨-, -, -, -, -, hkeeps⟩ := grantOf_sends h
  by_cases hc : c = .notice
  · obtain ⟨-, hu⟩ := grantOf_notice_eq (hc ▸ h)
    refine .of_move ?_
    rw [hu]
    split
    · exact .resent
    · next hf => exact .launched s (Bool.eq_false_iff.2 hf)
  · exact .of_eq (hkeeps hc)

theorem notifies_decideA (s : State) : Notifies s (decideA s) := by
  unfold decideA
  split
  · refine .after (t := discardBroadcastHeads s.trunk.upstream s) (by simp) ?_
    rcases grantCyclic_cases (discardBroadcastHeads s.trunk.upstream s) with h | ⟨c, h⟩
    · exact .of_eq (by rw [h])
    · exact notifies_grantOf h
  · exact .refl s

/-- The decision that closes an event comes after what the event has done. -/
theorem Notifies.decideA {s u : State} (h : Notifies s u) : Notifies s (decideA u) := h.trans (notifies_decideA u)

theorem Notifies.settle {s u : State} (h : Notifies s u) : Notifies s (settle u) :=
  (h.trans (.of_eq (by simp))).decideA

/-! ### Outcomes and their delivery (R36, R52 to R59) -/

theorem notifies_applyAnswer (n : NodeIx) (latency : Word32) (s : State) : Notifies s (applyAnswer n latency s) := by
  unfold applyAnswer
  dsimp only
  split
  · exact .refl s
  · exact .refl s
  · exact .followed evalNodeIndicator (.after (by simp) (notifies_raise ..)) (by simp)
  · exact .of_eq (by simp)

theorem notifies_enterOffline (n : NodeIx) (s : State) : Notifies s (enterOffline n s) :=
  .followed evalNodeIndicator (.after (by simp) (notifies_raise ..)) (by simp)

theorem notifies_applyFailure (n : NodeIx) (s : State) : Notifies s (applyFailure n s) := by
  unfold applyFailure
  dsimp only
  split
  · exact .refl s
  · exact .refl s
  · exact .of_eq (by simp)
  · split
    · exact .after (by simp) (notifies_enterOffline ..)
    · exact .of_eq (by simp)

theorem notifies_applyOutcome (n : NodeIx) (result : DropResult) (latency : Word32) (s : State) :
    Notifies s (applyOutcome n result latency s) := by
  cases result with
  | ok data => exact notifies_applyAnswer ..
  | exception code => exact notifies_applyAnswer ..
  | timeout => exact notifies_applyFailure ..
  | corrupt d => exact notifies_applyFailure ..

theorem notifies_probeOutcome (n : NodeIx) (result : DropResult) (latency : Word32) (s : State) :
    Notifies s (probeOutcome n result latency s) := by
  have h : Notifies s (applyOutcome n result latency (modifyHealth n (fun h => { h with claim := .none }) s)) :=
    .after (by simp) (notifies_applyOutcome ..)
  unfold probeOutcome
  dsimp only
  split
  · exact h
  · exact h
  · split
    · exact h.trans (.of_eq (by simp))
    · exact h

theorem notifies_deliver (t : Txn) (result : DropResult) (s : State) : Notifies s (deliver t result s) := by
  have howner : Notifies s (deliverToOwner t result s) := by
    unfold deliverToOwner
    split
    · exact .of_eq (by simp)
    · exact .of_eq (by simp)
    · exact notifies_probeOutcome ..
  have hmonitor : ∀ u, Notifies u (deliverToMonitor t result u) := fun u => by
    unfold deliverToMonitor
    split
    · exact .refl u
    · exact notifies_applyOutcome ..
    · exact .refl u
  exact .followed leaveTransaction (howner.trans (hmonitor _)) (by simp)

/-! ### The end of an attempt (R31 to R35) -/

theorem notifies_decideRetry (t : Txn) (result : DropResult) (s : State) : Notifies s (decideRetry t result s) := by
  unfold decideRetry
  split
  · exact .of_eq (by simp)
  · exact notifies_deliver ..

theorem notifies_endCorrupt (t : Txn) (d : CorruptDetail) (s : State) : Notifies s (endCorrupt t d s) :=
  .after (by simp) (notifies_decideRetry ..)

theorem notifies_endResponse (t : Txn) (result : DropResult) (s : State) : Notifies s (endResponse t result s) := by
  unfold endResponse
  split
  · exact notifies_endCorrupt ..
  · exact notifies_deliver ..

theorem notifies_takeNext (t : Txn) (ch : LineChar) (s : State) : Notifies s (takeNext t ch s) := by
  unfold takeNext
  dsimp only
  repeat' split
  · exact .of_eq (by simp)
  · exact .of_eq (by simp)
  · exact .of_eq (by simp)
  · exact .of_eq (by simp)
  · exact .of_eq (by simp)
  · exact .after (by simp) (notifies_endResponse ..)

theorem notifies_takeCharacter (ch : LineChar) (s : State) : Notifies s (takeCharacter ch s) := by
  unfold takeCharacter
  split
  · exact .of_eq (by simp)
  · exact .of_eq (by simp)
  · exact .of_eq (by simp)
  · exact .refl s
  · exact .refl s
  · exact .of_eq (by simp)
  · split
    · exact .refl s
    · exact notifies_takeNext ..

/-! ### Events of the drop line -/

theorem notifies_characterEnds (ch : LineChar) (s : State) : Notifies s (characterEnds ch s) := by
  unfold characterEnds
  split
  · exact (notifies_takeCharacter ch s).settle
  · exact notifies_takeCharacter ch s

theorem notifies_busyInGuard (s : State) : Notifies s (busyInGuard s) := by
  have hjam : Notifies s (enterJammed s) := by
    rw [enterJammed_eq]
    exact .followed (fun s => bump .lineFaults (setLineIndicator true s))
      (.after (by simp [jamStarted, jamAbandon]) (notifies_raise ..)) (by simp)
  unfold busyInGuard
  split
  · exact hjam.settle
  · exact .refl s

theorem notifies_frameSent (s : State) : Notifies s (frameSent s) := by
  unfold frameSent
  split
  · split
    · unfold requestSent
      dsimp only
      split
      · exact (Notifies.after (by simp) (notifies_deliver ..)).settle
      · exact .of_eq (by simp)
    · exact .refl s
  · exact .refl s

theorem notifies_deadlineReached (s : State) : Notifies s (deadlineReached s) := by
  unfold deadlineReached
  split
  · split
    · exact (Notifies.after (by simp) (notifies_decideRetry ..)).settle
    · exact .refl s
  · exact .refl s

theorem notifies_truncated (s : State) : Notifies s (truncated s) := by
  unfold truncated
  split
  · split
    · exact (notifies_endCorrupt ..).settle
    · exact .refl s
  · exact .refl s

theorem notifies_endDiscard (due : State → Bool) (s : State) : Notifies s (endDiscard due s) := by
  unfold endDiscard
  split
  · split
    · exact (notifies_endCorrupt ..).settle
    · exact .refl s
  · exact .refl s

theorem notifies_jamSilence (s : State) : Notifies s (jamSilence s) := by
  unfold jamSilence
  split
  · exact (Notifies.after (by simp) (notifies_raise ..)).settle
  · exact .refl s

theorem notifies_tailEnd (s : State) : Notifies s (tailEnd s) := by
  have hleave : Notifies s (leaveTail s) := by
    unfold leaveTail
    dsimp only
    split <;> exact .of_eq (by simp)
  unfold tailEnd
  split
  · exact hleave.settle
  · exact .refl s

/-! ### Events of the timers (R56, R69, R114, R163) -/

theorem notifies_accountLeftovers (s : State) : Notifies s (accountLeftovers s) := by
  obtain ⟨-, -, hkeeps, -⟩ := missPolls_keeps s.calendar.dueList s
  rw [accountLeftovers_eq]
  split
  · exact .of_eq hkeeps
  · refine .after (Eq.trans ?_ hkeeps) (notifies_raise ..)
    rfl

theorem notifies_applyPending (s : State) : Notifies s (applyPending s) := by
  unfold applyPending
  split
  · rw [applyCommit_eq]
    exact .after (by simp [commitAnswered_keeps]) (notifies_raise ..)
  · exact .refl s

theorem notifies_boundaryReached (s : State) : Notifies s (boundaryReached s) := by
  have hboundary : Notifies s (boundary s) :=
    .followed (fun s => formDue (scheduleBoundary s))
      ((notifies_accountLeftovers s).trans (.after (by simp) (notifies_applyPending _))) (by simp)
  unfold boundaryReached
  split
  · exact hboundary.settle
  · exact .refl s

theorem notifies_probeDueReached (n : NodeIx) (s : State) : Notifies s (probeDueReached n s) := by
  unfold probeDueReached
  split
  · split
    · exact .of_eq (by simp)
    · exact .of_eq (by simp)
    · exact (Notifies.of_eq (by simp)).settle
  · exact .refl s

theorem notifies_sessionExpiry (s : State) : Notifies s (sessionExpiry s) := by
  unfold sessionExpiry
  split
  · split
    · exact (Notifies.after (by simp) (notifies_raise ..)).decideA
    · exact .refl s
  · exact .refl s

theorem notifies_resendExpiry (s : State) : Notifies s (resendExpiry s) := by
  unfold resendExpiry
  split
  · next h =>
    obtain ⟨expiry, hr, -⟩ := (Option.any_eq_true _ _).1 h
    exact (Notifies.of_move (.expired (by simp [hr]))).decideA
  · exact .refl s

/-! ### Events of the trunk's ports (R143, R148, R151, R164) -/

theorem notifies_linkAUp (s : State) : Notifies s (linkAUp s) := by
  unfold linkAUp
  split
  · exact .refl s
  · exact (Notifies.of_move .linkUp).decideA

theorem notifies_linkADown (s : State) : Notifies s (linkADown s) := by
  unfold linkADown
  split
  · exact .of_move .linkDown
  · exact .refl s

theorem notifies_noticeSent (s : State) : Notifies s (noticeSent s) := by
  cases hx : s.notices.inFlight.bind NoticeRecord.flight with
  | none => exact .of_eq (by simp [noticeSent, hx])
  | some x =>
    obtain ⟨r, hr, -⟩ := Option.bind_eq_some_iff.1 hx
    rw [noticeSent_of_some hx]
    exact .of_move (.sent _ (by simp [hr]))

theorem notifies_transmissionAEnds (s : State) : Notifies s (transmissionAEnds s) := by
  have hcomplete : ∀ tx u, Notifies u (completeA tx u) := fun tx u => by
    unfold completeA
    split
    · exact .of_eq (by simp)
    · split
      · exact .of_eq (by simp)
      · exact .refl u
    · split
      · exact notifies_noticeSent u
      · exact .refl u
  unfold transmissionAEnds
  split
  · exact .refl s
  · next tx _ => exact (hcomplete tx { s with trunk := { s.trunk with aTx := none } }).decideA

theorem notifies_takeB (f : RawFrame) (s : State) : Notifies s (takeB f s) := by
  unfold takeB
  repeat' split
  · exact .refl s
  · exact .of_eq (by simp)
  · exact (Notifies.after (by simp) (notifies_relayUp ..)).decideA
  · exact .of_eq (by simp)

/-! ### Requests (R91, R97, R103, R106) -/

theorem notifies_intakeRequest (op : Op) (f : RequestFrame) (s : State) : Notifies s (intakeRequest op f s) := by
  have hrefused : ∀ status detail, Notifies s (refuse f.tag f.node status detail id s) := fun status detail => by
    unfold refuse
    split <;> exact .of_eq (by simp)
  unfold intakeRequest
  refine Notifies.decideA ?_
  split
  · exact hrefused ..
  · split
    · exact hrefused ..
    · split
      · unfold refuse
        split
        · exact .of_eq (by simp)
        · exact .after (by simp) (notifies_raise ..)
      · split
        · split <;> exact .of_eq (by simp)
        · exact .of_eq (by simp)

theorem notifies_intakeBroadcastWrite (f : RequestFrame) (s : State) : Notifies s (intakeBroadcastWrite f s) := by
  unfold intakeBroadcastWrite
  refine Notifies.decideA ?_
  repeat' split
  · exact .of_eq (by simp)
  · exact .of_eq (by simp)
  · exact .of_eq (by simp)
  · exact .after (by simp) (notifies_raise ..)
  · exact .of_eq (by simp)
  · exact .of_eq (by simp)

theorem notifies_intakeAbort (f : AbortFrame) (s : State) : Notifies s (intakeAbort f s) := by
  unfold intakeAbort
  refine Notifies.decideA ?_
  repeat' split
  all_goals exact .of_eq (by simp)

theorem notifies_raiseSoftReset (s : State) : Notifies s (raiseSoftReset (softReset s)) :=
  .trans (.of_move .softReset) (notifies_raise ..)

theorem notifies_ownNoticeAck (f : ManageFrame) (s : State) : Notifies s (ownNoticeAck f s) := by
  unfold ownNoticeAck
  split
  · exact .trans (.of_move (u := { s with notices := s.notices.acknowledge }) .acknowledged) (.of_eq (by simp))
  · exact .of_eq (by simp)

theorem notifies_ownNoticeMask (f : ManageFrame) (s : State) : Notifies s (ownNoticeMask f s) := by
  unfold ownNoticeMask
  split
  · exact .of_eq (by simp)
  · exact .trans (.of_move (u := { s with notices := s.notices.putMask (maskOf f) }) (.masked _)) (.of_eq (by simp))

/-- The owner of each code: only those of notices and of SEGMENT_RESET touch the queue. -/
theorem notifies_ownerOf (code : ManageCode) (t : Arrival) (f : ManageFrame) (s : State) :
    Notifies s (ownerOf code t f s) := by
  cases code with
  | noticeAck => exact notifies_ownNoticeAck f s
  | noticeMask => exact notifies_ownNoticeMask f s
  | segmentReset =>
    exact .trans (.of_move (u := softReset s) .softReset) (.after (by simp) (notifies_raise .resetDone none 3#16 _))
  | _ => exact .of_eq (by simp [ownerOf])

theorem notifies_manageChecks (f : ManageFrame) {rest : State → State} {s : State} (h : Notifies s (rest s)) :
    Notifies s (manageChecks f rest s) := by
  unfold manageChecks
  refine Notifies.decideA ?_
  repeat' split
  · exact .of_eq (by simp)
  · exact .of_eq (by simp)
  · exact .of_eq (by simp)
  · exact h

theorem notifies_intakeManage (code : ManageCode) (t : Arrival) (f : ManageFrame) (s : State) :
    Notifies s (intakeManage code (ownerOf code t) f s) := by
  refine notifies_manageChecks f ?_
  split
  · exact notifies_ownerOf ..
  · exact .of_eq (by simp)

theorem notifies_intakeUnknown (code : Byte) (f : ManageFrame) (s : State) : Notifies s (intakeUnknown code f s) :=
  notifies_manageChecks f (.of_eq (by simp))

theorem notifies_intakeBroadcastManage (code : ManageCode) {effect : ManageFrame → State → State} (f : ManageFrame)
    {s : State} (h : Notifies s (effect f s)) : Notifies s (intakeBroadcastManage code effect f s) := by
  unfold intakeBroadcastManage
  refine Notifies.decideA ?_
  split
  · exact .of_eq (by simp)
  · exact h

/-! ### Frames on port A (R105, R132, R144 to R146) -/

theorem notifies_intakeDirect (t : Arrival) (p : Downstream) (s : State) : Notifies s (intakeDirect t p s) := by
  cases p with
  | request op f => exact notifies_intakeRequest op f s
  | abort f => exact notifies_intakeAbort f s
  | manage code f =>
    change Notifies s (intakeManageCode t code f s)
    unfold intakeManageCode
    split
    · exact notifies_intakeUnknown code f s
    · exact notifies_intakeManage _ t f s
  | short => exact (Notifies.of_eq (by simp)).decideA

theorem notifies_intakeBroadcast (t : Arrival) (p : Downstream) (s : State) : Notifies s (intakeBroadcast t p s) := by
  have hdiscarded : Notifies s (decideA (discardFrame s)) := (Notifies.of_eq (by simp)).decideA
  unfold intakeBroadcast
  split
  · exact notifies_intakeBroadcastWrite ..
  · exact hdiscarded
  · exact hdiscarded
  · split
    · exact notifies_intakeBroadcastManage _ _ (.of_eq (by simp))
    · exact notifies_intakeBroadcastManage _ _ (notifies_raiseSoftReset s)
    · exact hdiscarded
  · exact hdiscarded

theorem notifies_takeA (t : Arrival) (f : RawFrame) (s : State) : Notifies s (takeA t f s) := by
  have hsort : ∀ u, Notifies u (sortDownstream t f.bytes u) := fun u => by
    have hrelay : Notifies u (relayDown f.bytes (arrivalInstant t u) u) := notifies_relayDown ..
    unfold sortDownstream
    repeat' split
    · exact hrelay
    · exact notifies_intakeDirect ..
    · exact hrelay.trans (notifies_intakeBroadcast ..)
    · exact hrelay.decideA
  unfold takeA
  repeat' split
  · exact .refl s
  · exact .of_eq (by simp)
  · exact .of_eq (by simp)
  · exact .after (by simp) (hsort _)

theorem notifies_running (us : Nat) {k : State → State} (hk : ∀ s, Notifies s (k s)) (s : State) :
    Notifies s (running us k s) := by
  unfold running
  split
  · exact .refl s
  · exact .after (by simp) (hk _)

/-- An event that leaves the queue. -/
theorem notifies_running_of_keeps (us : Nat) {k : State → State} (hk : ∀ s, (k s).notices = s.notices) (s : State) :
    Notifies s (running us k s) := notifies_running us (fun s => .of_eq (hk s)) s

theorem notifies_takeDirect (t : Arrival) (p : Downstream) {k : State → State} (hk : ∀ s, Notifies s (k s)) (s : State) :
    Notifies s (takeDirect t p k s) := by
  refine notifies_running _ (fun s => ?_) s
  repeat' split
  · exact .refl s
  · exact .of_eq (by simp)
  · exact .after (by simp) (notifies_relayDown ..)
  · exact .after (by simp) (hk _)

theorem notifies_takeBroadcast (t : Arrival) (p : Downstream) {k : State → State} (hk : ∀ s, Notifies s (k s))
    (s : State) : Notifies s (takeBroadcast t p k s) := by
  refine notifies_running _ (fun s => ?_) s
  have hrelay : Notifies s
      (relayDown (downstreamBytes Config.repeaterStrap p) (arrivalInstant t s) (bump .aReceived s)) :=
    .after (by simp) (notifies_relayDown ..)
  dsimp only
  repeat' split
  · exact .refl s
  · exact .of_eq (by simp)
  · exact hrelay
  · exact hrelay.trans (hk _)

/-! ### Every step -/

theorem notifies_beginReset (source : ResetSource) (s : State) : Notifies s (beginReset source s) :=
  .of_move (.hardReset s.straps (beginCause source s.held))

theorem notifies_releaseReset (straps : Straps) (s : State) : Notifies s (releaseReset straps s) := by
  have hblank : Notifies s { State.blank straps (s.held.getD .pin) with pending := s.pending } :=
    .of_move (.hardReset straps (s.held.getD .pin))
  exact hblank.trans (notifies_raise ..)

/-- A command's next state is reached by moves of the Notice Queue. -/
theorem notifies_exec {i : Instr} {s u : State} (hu : exec i s = .next u) : Notifies s u := by
  have next : ∀ {a : State}, Notifies s a → (.next a : Host.Outcome State Fault Refusal) = .next u → Notifies s u :=
    StepLaws.of_next (P := Notifies s)
  have hm : ∀ code t f,
      Notifies s (takeDirect t (.manage (ManageCode.byte code) f) (intakeManage code (ownerOf code t) f) s) :=
    fun code t f => notifies_takeDirect t _ (notifies_intakeManage code t f) s
  cases i with
  | hardReset straps => exact next (notifies_releaseReset straps s) hu
  | hardResetBegin source => exact next (notifies_beginReset source s) hu
  | trunkAUp dt => exact next (notifies_running dt notifies_linkAUp s) hu
  | trunkADown dt => exact next (notifies_running dt notifies_linkADown s) hu
  | trunkBUp dt => exact next (notifies_running_of_keeps dt (by simp) s) hu
  | trunkBDown dt => exact next (notifies_running_of_keeps dt (by simp) s) hu
  | aFrameReceived t f => exact next (notifies_running _ (notifies_takeA t f) s) hu
  | bFrameReceived dt f => exact next (notifies_running dt (notifies_takeB f) s) hu
  | bTransmitEnd dt => exact next (notifies_running_of_keeps dt (by simp) s) hu
  | aTransmitEnd dt => exact next (notifies_running dt notifies_transmissionAEnds s) hu
  | read t f => exact next (notifies_takeDirect t _ (notifies_intakeRequest .read f) s) hu
  | write t f => exact next (notifies_takeDirect t _ (notifies_intakeRequest .write f) s) hu
  | broadcastWrite t f => exact next (notifies_takeBroadcast t _ (notifies_intakeBroadcastWrite f) s) hu
  | abort t f => exact next (notifies_takeDirect t _ (notifies_intakeAbort f) s) hu
  | editOpen t f => exact next (hm .editOpen t f) hu
  | editClose t f => exact next (hm .editClose t f) hu
  | entryWrite t f => exact next (hm .entryWrite t f) hu
  | entryRead t f => exact next (hm .entryRead t f) hu
  | commit t f => exact next (hm .commit t f) hu
  | nodeRead t f => exact next (hm .nodeRead t f) hu
  | nodeEnable t f => exact next (hm .nodeEnable t f) hu
  | nodeDisable t f => exact next (hm .nodeDisable t f) hu
  | nodeRevive t f => exact next (hm .nodeRevive t f) hu
  | cellRead t f => exact next (hm .cellRead t f) hu
  | dropIsolate t f => exact next (hm .dropIsolate t f) hu
  | dropResume t f => exact next (hm .dropResume t f) hu
  | noticeAck t f => exact next (hm .noticeAck t f) hu
  | noticeMask t f => exact next (hm .noticeMask t f) hu
  | clockRead t f => exact next (hm .clockRead t f) hu
  | epochSet t scope f =>
    cases scope with
    | direct => exact next (hm .epochSet t f) hu
    | broadcast =>
      exact next (notifies_takeBroadcast t _
        (fun _ => notifies_intakeBroadcastManage .epochSet f (.of_eq (by simp))) s) hu
  | statusRead t f => exact next (hm .statusRead t f) hu
  | countersRead t f => exact next (hm .countersRead t f) hu
  | segmentReset t scope f =>
    cases scope with
    | direct => exact next (hm .segmentReset t f) hu
    | broadcast =>
      exact next (notifies_takeBroadcast t _
        (fun s => notifies_intakeBroadcastManage .segmentReset f (notifies_raiseSoftReset s)) s) hu
  | unknownCode t code f => exact next (notifies_takeDirect t _ (notifies_intakeUnknown code f) s) hu
  | guardSilenceReached dt => exact next (notifies_running_of_keeps dt (by simp) s) hu
  | busyLimitInGuard dt => exact next (notifies_running dt notifies_busyInGuard s) hu
  | requestFrameSent dt => exact next (notifies_running dt notifies_frameSent s) hu
  | strayCharacter dt ch => exact next (notifies_running dt (notifies_characterEnds ch) s) hu
  | responseFirstCharacter dt ch => exact next (notifies_running dt (notifies_characterEnds ch) s) hu
  | responseCharacter dt ch => exact next (notifies_running dt (notifies_characterEnds ch) s) hu
  | responseDeadline dt => exact next (notifies_running dt notifies_deadlineReached s) hu
  | responseTruncated dt => exact next (notifies_running dt notifies_truncated s) hu
  | discardSilenceReached dt => exact next (notifies_running dt (notifies_endDiscard guardSilent) s) hu
  | discardBusyLimit dt => exact next (notifies_running dt (notifies_endDiscard discardOverdue) s) hu
  | jamCleared dt => exact next (notifies_running dt notifies_jamSilence s) hu
  | sendingTailEnd dt => exact next (notifies_running dt notifies_tailEnd s) hu
  | baseCycleBoundary dt => exact next (notifies_running dt notifies_boundaryReached s) hu
  | freshnessExpiry dt cell => exact next (notifies_running_of_keeps dt (by simp) s) hu
  | probeTimerExpiry dt node => exact next (notifies_running dt (notifies_probeDueReached node) s) hu
  | sessionTimerExpiry dt => exact next (notifies_running dt notifies_sessionExpiry s) hu
  | noticeResendExpiry dt => exact next (notifies_running dt notifies_resendExpiry s) hu

theorem notifies_step {s u : State} (hu : step s = .next u) : Notifies s u := by
  unfold step at hu
  split at hu
  · exact StepLaws.of_next (P := Notifies s) (notifies_running 1 .refl s) hu
  · exact .after (by rfl) (notifies_exec hu)

/-- Settles O56: every step changes the Notice Queue by moves alone, and each move keeps the law. -/
theorem everyStepKeepsOneNoticeInFlight : Obligations.EveryStepKeepsOneNoticeInFlight :=
  fun _ _ h hu => (notifies_step hu).keeps_oneNoticeInFlight h

end Sys2Proof.Machine
end

section
/-! PROOF. The time base and the queue of commands: every command but those of a hard reset is an effect after the µs it lets
pass, and no effect touches the segment clock or the commands that wait (R169, R170, R177; log entries 1 and 7). -/

namespace Sys2Proof.Machine

/-! ### What an effect leaves -/

/-- What no command's effect changes: the commands that wait and the segment clock, and the epoch offset where one is
given. -/
structure TimeView where
  pending : List Instr
  clock : Stamp
  epoch : Option Stamp

/-- The view of a state, without the epoch offset where the command sets it. -/
def timeView (sets : Bool) (s : State) : TimeView where
  pending := s.pending
  clock := s.time.clock
  epoch := if sets then none else some s.time.epoch

/-- What leaves the queue of commands and the time base leaves the view. -/
theorem timeView_congr {sets : Bool} {s u : State} (hp : u.pending = s.pending) (ht : u.time = s.time) :
    timeView sets u = timeView sets s := by
  simp only [timeView, hp, ht]

/-- An effect that leaves the view for a command, which sets the epoch offset or does not. -/
def LeavesTime (sets : Bool) (k : State → State) : Prop :=
  ∀ s, timeView sets (k s) = timeView sets s

section
variable {sets : Bool} {k : State → State} (h : LeavesTime sets k) (s : State)
include h

theorem LeavesTime.pending_eq : (k s).pending = s.pending := congrArg TimeView.pending (h s)

theorem LeavesTime.clock_eq : (k s).time.clock = s.time.clock := congrArg TimeView.clock (h s)

end

theorem LeavesTime.epoch_eq {k : State → State} (h : LeavesTime false k) (s : State) :
    (k s).time.epoch = s.time.epoch := Option.some.inj (congrArg TimeView.epoch (h s))

theorem leavesTime_of_keeps {sets : Bool} {k : State → State} (hp : ∀ s, (k s).pending = s.pending)
    (ht : ∀ s, (k s).time = s.time) : LeavesTime sets k := fun s => timeView_congr (hp s) (ht s)

/-! ### Intake (R103 to R107) -/

section
variable {sets : Bool}

theorem timeView_decideA (s : State) : timeView sets (decideA s) = timeView sets s :=
  timeView_congr (by simp) (by simp)

theorem timeView_relayDown (bytes : List Byte) (arrival : Stamp) (s : State) :
    timeView sets (relayDown bytes arrival s) = timeView sets s := timeView_congr (by simp) (by simp)

/-- The owner of EPOCH_SET alone writes the epoch offset (R170). -/
theorem leavesTime_ownerOf {code : ManageCode} (hsets : code = .epochSet → sets = true) (t : Arrival)
    (f : ManageFrame) : LeavesTime sets (ownerOf code t f) := fun s => by
  cases code with
  | epochSet => obtain rfl := hsets rfl; rfl
  | _ => exact timeView_congr (by simp [ownerOf]) (by simp [ownerOf])

theorem leavesTime_intakeManage {code : ManageCode} (hsets : code = .epochSet → sets = true) (t : Arrival)
    (f : ManageFrame) : LeavesTime sets (intakeManage code (ownerOf code t) f) :=
  manageChecks_keeps (timeView sets) timeView_decideA (fun _ _ => rfl) (fun _ _ _ _ _ => rfl) f fun s => by
    split
    · exact leavesTime_ownerOf hsets t f s
    · rfl

theorem leavesTime_intakeUnknown (code : Byte) (f : ManageFrame) : LeavesTime sets (intakeUnknown code f) :=
  manageChecks_keeps (timeView sets) timeView_decideA (fun _ _ => rfl) (fun _ _ _ _ _ => rfl) f fun _ => rfl

theorem leavesTime_intakeBroadcastManage (code : ManageCode) {effect : ManageFrame → State → State} (f : ManageFrame)
    (he : LeavesTime sets (effect f)) : LeavesTime sets (intakeBroadcastManage code effect f) := fun s => by
  unfold intakeBroadcastManage
  rw [timeView_decideA]
  split
  · rfl
  · exact he s

theorem leavesTime_broadcastSegmentReset : LeavesTime sets broadcastSegmentReset :=
  leavesTime_of_keeps (by simp) (by simp)

/-! ### Frames given as bytes (R130 to R132, R137) -/

/-- A frame with the code of EPOCH_SET. -/
def Downstream.isEpochSet (p : Downstream) : Bool :=
  match p with
  | .manage code _ => code == 0x61#8
  | _ => false

theorem isEpochSet_of_otherKind {frame : List Byte}
    (h : byteAt frame 0 = 0x01#8 ∨ byteAt frame 0 = 0x02#8 ∨ byteAt frame 0 = 0x03#8) :
    (parseDownstream frame).isEpochSet = false := by
  rcases h with hk | hk | hk <;> simp [parseDownstream, hk, kindRead, kindWrite, kindAbort] <;> split <;> rfl

/-- A frame that port A takes is read as an EPOCH_SET only where its bytes have the kind of MANAGE and its code. -/
theorem bytes_of_isEpochSet {f : RawFrame} (hc : isCorrupt f = false) (hu : isUpstreamKind f = false)
    (h : (parseDownstream f.bytes).isEpochSet = true) :
    (byteAt f.bytes 0 == 0x04#8 && byteAt f.bytes 4 == 0x61#8) = true := by
  obtain ⟨-, -, -, -, hkind⟩ := isCorrupt_eq_false_iff.1 hc
  have hup : ¬ (byteAt f.bytes 0 = 0x81#8 ∨ byteAt f.bytes 0 = 0x82#8) := fun hk => by
    simp [isUpstreamKind_iff.2 hk] at hu
  by_cases hm : byteAt f.bytes 0 = 0x04#8
  · cases hs : isShort f.bytes with
    | true => rw [parseDownstream_of_short hs] at h; cases h
    | false =>
      obtain ⟨m, hp⟩ := parseDownstream_of_manage hm hs
      rw [hp] at h
      rw [hm]
      exact h
  · have hother : (parseDownstream f.bytes).isEpochSet = false := isEpochSet_of_otherKind (by
      simp only [List.mem_cons, List.not_mem_nil] at hkind
      tauto)
    cases h.symm.trans hother

theorem leavesTime_intakeDirect (t : Arrival) {p : Downstream} (hsets : p.isEpochSet = true → sets = true) :
    LeavesTime sets (intakeDirect t p) := fun s => by
  cases p with
  | request op f => exact timeView_congr (by simp [intakeDirect]) (by simp [intakeDirect])
  | abort f => exact timeView_congr (by simp [intakeDirect]) (by simp [intakeDirect])
  | manage code f =>
    change timeView sets (intakeManageCode t code f s) = _
    unfold intakeManageCode
    split
    · exact leavesTime_intakeUnknown code f s
    · next hcode =>
      refine leavesTime_intakeManage (fun he => hsets ?_) t f s
      subst he
      exact beq_iff_eq.2 (byte_of_ofByte? hcode).symm
  | short => exact timeView_decideA _

theorem leavesTime_intakeBroadcast (t : Arrival) {p : Downstream} (hsets : p.isEpochSet = true → sets = true) :
    LeavesTime sets (intakeBroadcast t p) := fun s => by
  have hdiscard : timeView sets (decideA (discardFrame s)) = timeView sets s := timeView_decideA _
  unfold intakeBroadcast
  split
  · exact timeView_congr (by simp) (by simp)
  · exact hdiscard
  · exact hdiscard
  · split
    · next hcode =>
      obtain rfl := hsets (beq_iff_eq.2 (byte_of_ofByte? hcode).symm)
      exact leavesTime_intakeBroadcastManage _ _ (fun _ => rfl) s
    · exact leavesTime_intakeBroadcastManage _ _ leavesTime_broadcastSegmentReset s
    · exact hdiscard
  · exact hdiscard

theorem leavesTime_sortDownstream (t : Arrival) {bytes : List Byte}
    (hsets : (parseDownstream bytes).isEpochSet = true → sets = true) : LeavesTime sets (sortDownstream t bytes) :=
  fun s => by
    unfold sortDownstream
    split
    · exact timeView_relayDown ..
    · split
      · exact leavesTime_intakeDirect t hsets s
      · split
        · exact (leavesTime_intakeBroadcast t hsets _).trans (timeView_relayDown ..)
        · exact (timeView_decideA _).trans (timeView_relayDown ..)

end

/-- A frame given as bytes writes the epoch offset only where its bytes are those of an EPOCH_SET (R170). -/
theorem leavesTime_takeA (t : Arrival) (f : RawFrame) :
    LeavesTime (Instr.aFrameReceived t f).carriesEpochSet (takeA t f) := fun s => by
  unfold takeA
  split
  · rfl
  · split
    · rfl
    · next hc =>
      split
      · rfl
      · next hu =>
        exact leavesTime_sortDownstream t
          (bytes_of_isEpochSet (Bool.eq_false_iff.2 hc) (Bool.eq_false_iff.2 hu)) (bump .aReceived s)

/-! ### Every command as an effect after the time it lets pass (log entry 1) -/

/-- A command's meaning is an effect that leaves the view, `us` µs after the command before it. -/
def RunsAfter (us : Nat) (sets : Bool) (meaning : State → Host.Outcome State Fault Refusal) : Prop :=
  ∃ k, (∀ s, meaning s = .next (running us k s)) ∧ LeavesTime sets k

theorem runsAfter_takeDirect {sets : Bool} (t : Arrival) (p : Downstream) {k : State → State}
    (hk : LeavesTime sets k) : RunsAfter t.elapsed sets fun s => .next (takeDirect t p k s) := by
  refine ⟨_, fun _ => rfl, fun s => ?_⟩
  repeat' split
  · rfl
  · rfl
  · exact timeView_relayDown ..
  · exact hk (bump .aReceived s)

theorem runsAfter_takeBroadcast {sets : Bool} (t : Arrival) (p : Downstream) {k : State → State}
    (hk : LeavesTime sets k) : RunsAfter t.elapsed sets fun s => .next (takeBroadcast t p k s) := by
  refine ⟨_, fun _ => rfl, fun s => ?_⟩
  dsimp only
  repeat' split
  · rfl
  · rfl
  · exact timeView_relayDown ..
  · exact (hk _).trans (timeView_relayDown ..)

theorem runsAfter_event (us : Nat) {sets : Bool} {k : State → State} (hp : ∀ s, (k s).pending = s.pending)
    (ht : ∀ s, (k s).time = s.time) : RunsAfter us sets fun s => .next (running us k s) :=
  ⟨k, fun _ => rfl, leavesTime_of_keeps hp ht⟩

/-- Every command but the two of a hard reset is an effect after the µs it lets pass, and none but one that carries an
EPOCH_SET writes the epoch offset. -/
theorem exec_runsAfter {i : Instr} {us : Nat} (he : i.elapsed = some us) :
    RunsAfter us i.carriesEpochSet (exec i) := by
  cases i with
  | hardReset straps => cases he
  | hardResetBegin source => cases he
  | aFrameReceived t f => cases he; exact ⟨takeA t f, fun _ => rfl, leavesTime_takeA t f⟩
  | read t f | write t f | abort t f =>
    cases he; exact runsAfter_takeDirect t _ (leavesTime_of_keeps (by simp) (by simp))
  | broadcastWrite t f => cases he; exact runsAfter_takeBroadcast t _ (leavesTime_of_keeps (by simp) (by simp))
  | editOpen t f | editClose t f | entryWrite t f | entryRead t f | commit t f | nodeRead t f | nodeEnable t f
  | nodeDisable t f | nodeRevive t f | cellRead t f | dropIsolate t f | dropResume t f | noticeAck t f
  | noticeMask t f | clockRead t f | statusRead t f | countersRead t f =>
    cases he; exact runsAfter_takeDirect t _ (leavesTime_intakeManage (by nofun) t f)
  | unknownCode t code f => cases he; exact runsAfter_takeDirect t _ (leavesTime_intakeUnknown code f)
  | epochSet t scope f =>
    cases he
    cases scope with
    | direct => exact runsAfter_takeDirect t _ (leavesTime_intakeManage (fun _ => rfl) t f)
    | broadcast => exact runsAfter_takeBroadcast t _ (leavesTime_intakeBroadcastManage .epochSet f fun _ => rfl)
  | segmentReset t scope f =>
    cases he
    cases scope with
    | direct => exact runsAfter_takeDirect t _ (leavesTime_intakeManage (by nofun) t f)
    | broadcast =>
      exact runsAfter_takeBroadcast t _
        (leavesTime_intakeBroadcastManage .segmentReset f leavesTime_broadcastSegmentReset)
  -- The events of the links, the drop line and the timers.
  | _ => cases he; exact runsAfter_event _ (by simp) (by simp)

/-- With no command waiting a step is a tick (log entry 1). -/
theorem step_of_idle {s : State} (h : s.pending = []) : step s = .next (tick s) := by
  rw [step, h]

/-- Settles O2: every command but those of a hard reset is an effect that leaves the waiting commands, run after the time it
lets pass or not at all; the two of a hard reset carry the queue over. -/
theorem everyCommandCompletesAndKeepsQueue : Obligations.EveryCommandCompletesAndKeepsQueue := by
  refine ⟨fun i s => ?_, fun s hp hh => ?_, fun s hp hh => ?_, fun i s hi hh => ?_⟩
  · cases he : i.elapsed with
    | some us =>
      obtain ⟨k, hexec, hk⟩ := exec_runsAfter he
      exact ⟨_, hexec s, running_keeps State.pending us (by simp) hk.pending_eq s⟩
    | none =>
      cases i with
      | hardReset straps => exact ⟨_, rfl, by simp [releaseReset]⟩
      | hardResetBegin source => exact ⟨_, rfl, rfl⟩
      | _ => cases he
  · exact (step_of_idle hp).trans (congrArg Host.Outcome.next (running_of_not_held hh 1 id))
  · exact (step_of_idle hp).trans (congrArg Host.Outcome.next (if_pos hh))
  · obtain ⟨us, he⟩ := Option.isSome_iff_exists.1 hi
    obtain ⟨k, hexec, -⟩ := exec_runsAfter he
    exact (hexec s).trans (congrArg Host.Outcome.next (if_pos hh))

/-- Settles O3: a command's effect leaves the clock that its elapsed time has moved, and the epoch offset unless it carries
an EPOCH_SET. -/
theorem timeBaseIsWrittenOnlyByItsOwners : Obligations.TimeBaseIsWrittenOnlyByItsOwners := by
  refine ⟨fun i us s he hh => ?_, fun i us s he hc => ?_⟩
  · obtain ⟨k, hexec, hk⟩ := exec_runsAfter he
    refine ⟨k (advance us s), ?_, hk.clock_eq _⟩
    rw [hexec, running_of_not_held hh]
  · obtain ⟨k, hexec, hk⟩ := exec_runsAfter he
    rw [hc] at hk
    exact ⟨_, hexec s, running_keeps (fun s => s.time.epoch) us (fun _ => rfl) hk.epoch_eq s⟩

/-! ### CLOCK_READ and EPOCH_SET at the arrival instant (R107, R144, R171, R172) -/

/-- A broadcast MANAGE command whose form or argument length is wrong is relayed and discarded without a reply (R107). -/
theorem takeBroadcastManage_of_refused {code : ManageCode} {f : ManageFrame} {s : State} (t : Arrival)
    (effect : ManageFrame → State → State) (hs : Serving s)
    (hl : Sys2Proof.Downstream.fits (.manage code.byte f) = true)
    (hr : manageFormFault f ≠ none ∨ f.args.length ≠ code.argLength) :
    takeBroadcast t (.manage code.byte f) (intakeBroadcastManage code effect f) s =
      decideA (discardFrame (s.atBroadcast t (.manage code.byte f))) := by
  rw [takeBroadcast_of_serving _ hs (fits_length hl _), intakeBroadcastManage,
    if_pos (hr.imp_left Option.isSome_iff_ne_none.2)]

/-- The relay of a broadcast frame leaves its arrival instant to the EPOCH_SET (R144, R146). -/
theorem setEpoch_atBroadcast (t : Arrival) (p : Downstream) (f : ManageFrame) (s : State) :
    setEpoch t f (s.atBroadcast t p) =
      { s.atBroadcast t p with
        time := { (s.atFrame t).time with epoch := word48 f.args - s.arrival t } } := by
  have htime : (s.atBroadcast t p).time = (s.atFrame t).time := by simp
  rw [setEpoch, arrivalInstant, htime]
  rfl

/-- Settles O36. -/
theorem clockReadAndEpochSetUseArrivalInstant : Obligations.ClockReadAndEpochSetUseArrivalInstant := by
  refine ⟨fun t f s hs hp => exec_manage_of_owner (code := .clockRead) hs hp rfl,
    fun t f s hs hp => exec_manage_of_owner (code := .epochSet) hs hp rfl,
    fun t f s hs hf ha => ?_,
    fun t f s hs hl hr =>
      congrArg Host.Outcome.next (takeBroadcastManage_of_refused (code := .epochSet) t (setEpoch t) hs hl hr)⟩
  rw [← setEpoch_atBroadcast]
  exact congrArg Host.Outcome.next (takeBroadcastManage_of_passes (code := .epochSet) t (setEpoch t) hs hf ha)

end Sys2Proof.Machine
end

section
/-! PROOF. The step over a queue that is not empty: the front command alone is executed. -/

namespace Sys2Proof.Machine

/-- With a command waiting a step is that command's execution, on the state from whose queue it has been taken; beside
`step_of_idle` this is all that a step can be. -/
theorem step_of_front {c : Instr} {rest : List Instr} {s : State} (h : s.pending = c :: rest) :
    step s = exec c { s with pending := rest } := by
  rw [step, h]

/-- Settles O1. -/
theorem stepRunsFrontCommand : Obligations.StepRunsFrontCommand :=
  fun _ _ _ => step_of_front

end Sys2Proof.Machine
end
